-- ==== Sys2Proof/Word.lean ====
section
/-! DEFINITION. The word types of the block: a channel value, a CSR number or pixel index, a register value and a
command word (spec 00_scope.md R7, R8; 30_encoding.md R80). All of them are unsigned (R8, R12). -/

namespace Sys2Proof

/-- An 8-bit channel value, and one byte of a frame (R7: CHANNEL_BITS = 8). -/
abbrev Byte := BitVec 8

/-- The 24-bit IDX field: a CSR number or a pixel index (R80, R83). -/
abbrev Index := BitVec 24

/-- A 32-bit register value, colour word or ENCODE operand (R7, R80). -/
abbrev Word := BitVec 32

/-- A 64-bit command word (R80). -/
abbrev CmdWord := BitVec 64

end Sys2Proof
end

