-- ==== Sys2Proof/Config.lean ====
section
/-! DEFINITION. What one build of the block fixes (the OPEN parameters of spec 00_scope.md R7, decisions D14, D15,
D21, P1, P2), and the one value nothing in the block determines: how the transport's wait ends (R14, R222, R162, R243).

The OPEN parameters are a plain record that State carries (log entry 1), so that a statement about every state is a
statement about every choice of them. -/

namespace Sys2Proof

/-- R7: the OPEN parameters. Times are non-negative integers in nanoseconds. -/
structure Params where
  /-- MAX_LED_COUNT: the largest LED_COUNT INIT accepts (R22, D21). -/
  maxLedCount : Nat
  t0hMinNs : Nat
  t0hMaxNs : Nat
  t0lMinNs : Nat
  t0lMaxNs : Nat
  t1hMinNs : Nat
  t1hMaxNs : Nat
  t1lMinNs : Nat
  t1lMaxNs : Nat
  /-- T_RESET_MIN_NS: the least low time of each reset region (R188). -/
  tResetMinNs : Nat
  deriving DecidableEq, Repr

/-- R7's default windows and reset time; MAX_LED_COUNT, which has no default, takes the value of the spec's own
test vectors (DESIGN CHOICE, log entry 1; unsafe for a claim about the reset state alone). -/
def Params.default : Params where
  maxLedCount := 1024
  t0hMinNs := 250
  t0hMaxNs := 550
  t0lMinNs := 700
  t0lMaxNs := 1000
  t1hMinNs := 650
  t1hMaxNs := 950
  t1lMinNs := 300
  t1lMaxNs := 600
  tResetMinNs := 280000

/-- R222: the two answers of the transport's whole-buffer write. -/
inductive TransportAnswer where
  | ok
  | fail
  deriving DecidableEq, Repr, Inhabited

/-- How the wait of one RENDER for the transport ends. -/
inductive WaitOutcome where
  /-- The transport returns (R222). -/
  | answered (a : TransportAnswer)
  /-- The transport never returns, and no reset comes: the RENDER is stuck (R162). -/
  | never
  /-- The block's reset input is asserted before the transport returns; `bits` bounds how many bits of the frame had
  reached the wire, which the spec leaves open: any prefix (R243). -/
  | reset (bits : Nat)
  deriving DecidableEq, Repr, Inhabited

/-- FREE VALUE (R14, R222, D24; log entry 2): how the wait of the n-th `Transmit` call ends where the environment's
script in State does not say. It has no body, so no proof can know it. -/
opaque Config.transportOutcome : Nat → WaitOutcome

end Sys2Proof
end

