-- ==== Sys2Proof/Syntax.lean ====
section
/-! DEFINITION. The command set: one constructor per row of spec/opcode_table.json, with the operands that
30_encoding.md R83 and R93 give each command. The fields R83 marks "ignored" are no operands (R89). -/

namespace Sys2Proof

/-- R87, R93: the nine commands. -/
inductive Instr where
  /-- CSR_WRITE (R180): CSR number and value. -/
  | csrWrite (n : Index) (value : Word)
  /-- CSR_READ (R182): CSR number. -/
  | csrRead (n : Index)
  /-- INIT (R184). -/
  | init
  /-- SET_PIXEL (R150): pixel index and colour word. -/
  | setPixel (i : Index) (color : Word)
  /-- GET_PIXEL (R152): pixel index. -/
  | getPixel (i : Index)
  /-- FILL (R154): colour word. -/
  | fill (color : Word)
  /-- CLEAR (R156). -/
  | clear
  /-- ENCODE (R114): the channel value as a 32-bit number; its range is checked when the command executes (R86). -/
  | encode (v : Word)
  /-- RENDER (R158). -/
  | render
  deriving DecidableEq, Repr

end Sys2Proof
end

