-- ==== Sys2Proof/WellFormed.lean ====
section
/-! DEFINITION. Well-formedness of terms: of a command (nothing to check beyond the operand widths, which the types
carry) and of a choice of the OPEN parameters (spec 00_scope.md R7). Well-formedness of a command WORD stands in
Decode.lean, of a pixel buffer in Machine/Ops.lean. -/

namespace Sys2Proof

/-- R93: "The CSR number, the pixel index and the channel value are checked when the command executes, not when it is
decoded", so every command whose operands have the widths of R83 is well formed, and the types give those widths. -/
def Instr.wellFormed : Instr → Bool
  | .csrWrite _ _ => true
  | .csrRead _ => true
  | .init => true
  | .setPixel _ _ => true
  | .getPixel _ => true
  | .fill _ => true
  | .clear => true
  | .encode _ => true
  | .render => true

/-- R7: 1 ≤ MAX_LED_COUNT ≤ 0xFFFFFF, and every MIN is at most its MAX. -/
def Params.wellFormed (p : Params) : Bool :=
  decide (1 ≤ p.maxLedCount) && decide (p.maxLedCount ≤ 0xFFFFFF)
    && decide (p.t0hMinNs ≤ p.t0hMaxNs) && decide (p.t0lMinNs ≤ p.t0lMaxNs)
    && decide (p.t1hMinNs ≤ p.t1hMaxNs) && decide (p.t1lMinNs ≤ p.t1lMaxNs)

end Sys2Proof
end

