-- ==== Sys2Proof/Decode.lean ====
section
/-! DEFINITION. The command word (spec 30_encoding.md R80), its decoder (R93), which is total and rejects a reserved
opcode by name (R88), and the encoder (R87, R91: "The assembler writes 0 into every ignored field"). -/

namespace Sys2Proof

/-- R80: OPC = [63:56]. -/
def opcOf (w : CmdWord) : BitVec 8 := w.extractLsb' 56 8

/-- R80: IDX = [55:32]. -/
def idxOf (w : CmdWord) : Index := w.extractLsb' 32 24

/-- R80: DATA = [31:0]. -/
def dataOf (w : CmdWord) : Word := w.extractLsb' 0 32

/-- R80: the word with these three fields. -/
def packCmd (opc : BitVec 8) (idx : Index) (data : Word) : CmdWord := opc ++ idx ++ data

/-- R93: the decoder's verdict on a word. -/
inductive Verdict where
  /-- The word is this command. -/
  | command (i : Instr)
  /-- ILLEGAL: the opcode is reserved (R88). -/
  | illegal (opc : BitVec 8)
  deriving DecidableEq, Repr

/-- R93. Decoding selects on OPC alone; ignored fields are dropped (R89). -/
def decode (w : CmdWord) : Verdict :=
  match (opcOf w).toNat with
  | 0x01 => .command (.csrWrite (idxOf w) (dataOf w))
  | 0x02 => .command (.csrRead (idxOf w))
  | 0x03 => .command .init
  | 0x04 => .command (.setPixel (idxOf w) (dataOf w))
  | 0x05 => .command (.getPixel (idxOf w))
  | 0x06 => .command (.fill (dataOf w))
  | 0x07 => .command .clear
  | 0x08 => .command (.encode (dataOf w))
  | 0x09 => .command .render
  | _ => .illegal (opcOf w)

/-- R87, R91: the word of a command, 0 in every ignored field. -/
def encode : Instr → CmdWord
  | .csrWrite n value => packCmd 0x01 n value
  | .csrRead n => packCmd 0x02 n 0
  | .init => packCmd 0x03 0 0
  | .setPixel i color => packCmd 0x04 i color
  | .getPixel i => packCmd 0x05 i 0
  | .fill color => packCmd 0x06 0 color
  | .clear => packCmd 0x07 0 0
  | .encode v => packCmd 0x08 0 v
  | .render => packCmd 0x09 0 0

/-- R87, R88: the opcode is one of the nine mapped ones. -/
def opcodeMapped (opc : BitVec 8) : Bool := decide (0x01 ≤ opc.toNat) && decide (opc.toNat ≤ 0x09)

/-- R83: does a command with this opcode use its IDX field? -/
def usesIdx (opc : BitVec 8) : Bool := opc == 0x01 || opc == 0x02 || opc == 0x04 || opc == 0x05

/-- R83: does a command with this opcode use its DATA field? -/
def usesData (opc : BitVec 8) : Bool := opc == 0x01 || opc == 0x04 || opc == 0x06 || opc == 0x08

/-- The word with 0 in the fields R83 marks ignored for its opcode (R89: "Any value in it gives the same result as
0"). A reserved opcode uses neither field. -/
def clearIgnored (w : CmdWord) : CmdWord :=
  packCmd (opcOf w) (if usesIdx (opcOf w) then idxOf w else 0) (if usesData (opcOf w) then dataOf w else 0)

/-- A word an assembler writes (R91): a mapped opcode, and 0 in every ignored field. -/
def wordCanonical (w : CmdWord) : Bool := opcodeMapped (opcOf w) && (clearIgnored w == w)

/-- The instruction the decoder reads from an instruction of `nbits` bits `w`, numbered as spec/opcode_table.json
numbers them; the command word is a whole 64-bit number, with no byte order (R67). -/
def decodeTableWord (nbits w : Nat) : Option Instr :=
  match decode (BitVec.ofNat 64 (w % 2 ^ nbits)) with
  | .command i => some i
  | .illegal _ => none

end Sys2Proof
end

