-- ==== Sys2Proof/Machine/State.lean ====
section
/-! DEFINITION. The state: the block's four parts of spec 10_state.md R20 (phase, CSR file, LUT, pixel buffer), the OPEN
parameters of this build (00_scope.md R7), and what the other two agents of R14 show at the block's ports (the host's
commands and the responses it got; the transport's answers and the frames it was handed). Plain data throughout. -/

namespace Sys2Proof.Machine

/-- R20: the block phase. -/
inductive Phase where
  | unconfigured
  | ready
  deriving DecidableEq, Repr

/-- R211: the status codes; codes 8 to 255 do not exist, because they are never produced (I22). -/
inductive StatusCode where
  | ok
  | configurationError
  | rangeError
  | transportError
  | protocolTimingViolation
  | illegalCommand
  | notInitialized
  | configLocked
  deriving DecidableEq, Repr

/-- R82: the data of a response. -/
inductive RData where
  /-- `none` in the spec. -/
  | nothing
  /-- A 32-bit word (CSR_READ, GET_PIXEL). -/
  | word (w : Word)
  /-- A sequence of S bytes (ENCODE). -/
  | bytes (bs : List Byte)
  deriving DecidableEq, Repr

/-- R82: a response `(STAT, RDATA)`. -/
structure Response where
  stat : StatusCode
  rdata : RData
  deriving DecidableEq, Repr

/-- What the host does to the block: it sends a command word (R81), or asserts the block's reset input (R240). -/
inductive HostEvent where
  | command (w : CmdWord)
  | reset
  deriving DecidableEq, Repr

/-- One `Transmit` call (R222, R159), as the transport's side records it. -/
structure Transmission where
  /-- The pixel buffer the frame was built from (R74: the snapshot). -/
  snapshot : List (List Byte)
  /-- The whole frame handed over in the call (R130, R159). -/
  frame : List Byte
  /-- CLOCK_RATE, which the block passes to the transport (R27). -/
  clockRate : Word
  /-- How the wait ended. -/
  outcome : WaitOutcome
  deriving DecidableEq, Repr

/-- R21: the registers, each at the width of its field, so that a bit outside the field is never stored (R181).
STATUS is computed (R31): it is the phase and `lastErr`. -/
structure CsrFile where
  /-- 0x00 LED_COUNT (R22). -/
  ledCount : BitVec 24
  /-- 0x01 CHANNEL_ORDER (R23). -/
  channelOrder : BitVec 8
  /-- 0x02 SYMBOL_BITS (R24). -/
  symbolBits : BitVec 8
  /-- 0x03 PATTERN0 (R25). -/
  pattern0 : Word
  /-- 0x04 PATTERN1 (R26). -/
  pattern1 : Word
  /-- 0x05 CLOCK_RATE in Hz (R27). -/
  clockRate : Word
  /-- 0x06 RESET_LEAD; 0 is AUTO before INIT (R28). -/
  resetLead : BitVec 24
  /-- 0x07 RESET_TRAIL (R29). -/
  resetTrail : BitVec 24
  /-- 0x08 SPI_BUS (R30). -/
  spiBus : Word
  /-- 0x09 SPI_DEVICE (R30). -/
  spiDevice : Word
  /-- 0x10 STATUS, field LAST_ERR (R31, R213). -/
  lastErr : StatusCode
  /-- 0x11 FRAME_LEN (R32). -/
  frameLen : Word
  /-- 0x12 RENDER_COUNT (R33). -/
  renderCount : Word
  deriving DecidableEq, Repr

/-- R44: the registers after reset. -/
def CsrFile.reset : CsrFile where
  ledCount := 0
  channelOrder := 0
  symbolBits := 8
  pattern0 := 0xC0
  pattern1 := 0xF8
  clockRate := 0x0061A800
  resetLead := 0
  resetTrail := 0
  spiBus := 0
  spiDevice := 0
  lastErr := .ok
  frameLen := 0
  renderCount := 0

/-- The machine. The first five fields are the block and its build; the other five are the host's and the transport's
side of the block's two ports, and no state of the block (R20, R41; log entries 2 and 3). -/
structure State where
  /-- The OPEN parameters of this build (R7, log entry 1). No step writes them. -/
  params : Params
  /-- R20. -/
  phase : Phase
  /-- R21 to R34. -/
  csr : CsrFile
  /-- R35: 256 entries of S bytes in READY; `[]` where the LUT does not exist (log entry 4). -/
  lut : List (List Byte)
  /-- R36: N pixels of C slots in READY; `[]` where the buffer does not exist (log entry 4). -/
  pix : List (List Byte)
  /-- What the host will do next, oldest first; the block takes one event a step (R74, R81). -/
  host : List HostEvent
  /-- The responses the host has received, oldest first (R82). -/
  responses : List Response
  /-- How the next waits for the transport end, where the environment fixes it, oldest first (R14). -/
  transport : List WaitOutcome
  /-- How many `Transmit` calls have been made: the number of the next draw (R14; log entry 2). -/
  draws : Nat
  /-- The transport output space (R60): the `Transmit` calls, oldest first. -/
  transmissions : List Transmission
  deriving DecidableEq, Repr

/-- Why the machine stops with no next state. -/
inductive Fault where
  /-- R162: the transport never answers, so the RENDER never completes and the block accepts no further command; "A
  model gives that RENDER no completing step: it is stuck". Raised by RENDER alone. Safe. -/
  | transportNeverAnswers
  deriving DecidableEq, Repr

/-- Why a command has no meaning in this model. -/
inductive Refusal where
  /-- The command is not modelled. No arm of `exec` raises it: every command has its meaning. Safe. -/
  | notModelled (mnemonic : String)
  deriving DecidableEq, Repr

/-- R44, R240: the machine right after reset. The host has sent nothing yet and the transport has been handed nothing.
The parameters are R7's defaults (log entry 1). -/
def State.reset : State where
  params := Params.default
  phase := .unconfigured
  csr := CsrFile.reset
  lut := []
  pix := []
  host := []
  responses := []
  transport := []
  draws := 0
  transmissions := []

end Sys2Proof.Machine
end

