-- ==== Sys2Proof/Machine/Flags.lean ====
section
/-! DEFINITION. The block's only flags: the status codes (spec 60_exceptions.md R211) and the STATUS register they
appear in (10_state.md R31, R40). -/

namespace Sys2Proof.Machine

/-- R211: the 8-bit number of each status code. -/
def StatusCode.code : StatusCode → BitVec 8
  | .ok => 0
  | .configurationError => 1
  | .rangeError => 2
  | .transportError => 3
  | .protocolTimingViolation => 4
  | .illegalCommand => 5
  | .notInitialized => 6
  | .configLocked => 7

/-- R31: STATUS.READY is 1 exactly when the phase is READY. -/
def readyBit : Phase → BitVec 1
  | .unconfigured => 0
  | .ready => 1

/-- R31, R183: STATUS, with READY in bit 0, LAST_ERR in bits [15:8] and 0 elsewhere. -/
def statusWord (ph : Phase) (lastErr : StatusCode) : Word :=
  (0 : BitVec 16) ++ lastErr.code ++ (0 : BitVec 7) ++ readyBit ph

end Sys2Proof.Machine
end

