-- ==== Sys2Proof/Machine/Operands.lean ====
section
/-! DEFINITION. The operand forms (spec 30_encoding.md R83): a CSR number (R84), a colour word (R85, R65) and a channel
value (R86). A pixel index needs no form of its own: it is the IDX field, zero-extended (R83). -/

namespace Sys2Proof.Machine

/-- The ten configuration registers, 0x00 to 0x09 (R21). -/
inductive ConfigReg where
  | ledCount
  | channelOrder
  | symbolBits
  | pattern0
  | pattern1
  | clockRate
  | resetLead
  | resetTrail
  | spiBus
  | spiDevice
  deriving DecidableEq, Repr

/-- The thirteen mapped registers (R21). -/
inductive Csr where
  | config (r : ConfigReg)
  | status
  | frameLen
  | renderCount
  deriving DecidableEq, Repr

/-- R21: a configuration register's number. -/
def ConfigReg.number : ConfigReg → Index
  | .ledCount => 0x00
  | .channelOrder => 0x01
  | .symbolBits => 0x02
  | .pattern0 => 0x03
  | .pattern1 => 0x04
  | .clockRate => 0x05
  | .resetLead => 0x06
  | .resetTrail => 0x07
  | .spiBus => 0x08
  | .spiDevice => 0x09

/-- R21, R34, R84: the register with this number; the whole 24-bit number counts, and every other number is
unmapped. -/
def csrAt (n : Index) : Option Csr :=
  match n.toNat with
  | 0x00 => some (.config .ledCount)
  | 0x01 => some (.config .channelOrder)
  | 0x02 => some (.config .symbolBits)
  | 0x03 => some (.config .pattern0)
  | 0x04 => some (.config .pattern1)
  | 0x05 => some (.config .clockRate)
  | 0x06 => some (.config .resetLead)
  | 0x07 => some (.config .resetTrail)
  | 0x08 => some (.config .spiBus)
  | 0x09 => some (.config .spiDevice)
  | 0x10 => some .status
  | 0x11 => some .frameLen
  | 0x12 => some .renderCount
  | _ => none

/-- R181: FIELDMASK, the writable bits of a configuration register. -/
def fieldMask : ConfigReg → Word
  | .ledCount => 0x00FFFFFF
  | .channelOrder => 0x000000FF
  | .symbolBits => 0x000000FF
  | .pattern0 => 0xFFFFFFFF
  | .pattern1 => 0xFFFFFFFF
  | .clockRate => 0xFFFFFFFF
  | .resetLead => 0x00FFFFFF
  | .resetTrail => 0x00FFFFFF
  | .spiBus => 0xFFFFFFFF
  | .spiDevice => 0xFFFFFFFF

/-- R65, R85: slot k of a colour word is DATA[31−8k : 24−8k]. -/
def slotByte (d : Word) (k : Nat) : Byte := d.extractLsb' (24 - 8 * k) 8

/-- R65, 42_led_strip.md: the first `c` slots of a colour word; with c = 3, DATA[7:0] is dropped. -/
def unpack (c : Nat) (d : Word) : List Byte := (List.range c).map (slotByte d)

/-- R65, 42_led_strip.md: the colour word of a pixel; a slot the pixel does not have reads as 0. -/
def pack (p : List Byte) : Word := p.getD 0 0 ++ p.getD 1 0 ++ p.getD 2 0 ++ p.getD 3 0

/-- R86: the channel value of ENCODE, legal only when DATA[31:8] = 0. -/
def channelValue (d : Word) : Option Byte := if d.extractLsb' 8 24 = 0 then some (d.extractLsb' 0 8) else none

/-- The colours a slot can carry (R23). -/
inductive Colour where
  | red
  | green
  | blue
  | white
  deriving DecidableEq, Repr

/-- R23: the colour each slot carries under a supported CHANNEL_ORDER value: 0 is GRB, 1 is RGB, 2 is RGBW. Any other
value is unsupported. The block never permutes slots by it (R131). -/
def slotColours (order : BitVec 8) : Option (List Colour) :=
  match order.toNat with
  | 0 => some [.green, .red, .blue]
  | 1 => some [.red, .green, .blue]
  | 2 => some [.red, .green, .blue, .white]
  | _ => none

end Sys2Proof.Machine
end

