-- ==== Sys2Proof/Machine/Ops.lean ====
section
/-! DEFINITION. The named operations every command is built from (spec 00_scope.md R9): the derived quantities of
10_state.md R43, register and pixel reads and writes, `respond`, `raise` (60_exceptions.md R212, the block's one form
of exception), the hand-over to the transport (R222), and the reset of the block (R240).

There is no return from an exception: R216 and R217 give the block no handler to return from. -/

namespace Sys2Proof.Machine

/-! ## Derived quantities (R43) -/

/-- N = csr[0x00][23:0]. -/
def CsrFile.numLeds (c : CsrFile) : Nat := c.ledCount.toNat

/-- C = 4 if csr[0x01][7:0] = 2 else 3. -/
def CsrFile.channels (c : CsrFile) : Nat := if c.channelOrder = 2 then 4 else 3

/-- S = csr[0x02][7:0]. -/
def CsrFile.symbolWidth (c : CsrFile) : Nat := c.symbolBits.toNat

/-- P0 = csr[0x03][S-1:0]. -/
def CsrFile.patternZero (c : CsrFile) : Nat := c.pattern0.toNat % 2 ^ c.symbolWidth

/-- P1 = csr[0x04][S-1:0]. -/
def CsrFile.patternOne (c : CsrFile) : Nat := c.pattern1.toNat % 2 ^ c.symbolWidth

/-- f = csr[0x05]. -/
def CsrFile.clockHz (c : CsrFile) : Nat := c.clockRate.toNat

/-- LEAD = csr[0x06][23:0]. -/
def CsrFile.leadBytes (c : CsrFile) : Nat := c.resetLead.toNat

/-- TRAIL = csr[0x07][23:0]. -/
def CsrFile.trailBytes (c : CsrFile) : Nat := c.resetTrail.toNat

/-- L = LEAD + N·C·S + TRAIL. -/
def CsrFile.frameLength (c : CsrFile) : Nat :=
  c.leadBytes + c.numLeds * c.channels * c.symbolWidth + c.trailBytes

/-! ## Registers -/

/-- The stored value of a configuration register, zero-extended to 32 bits (R21). -/
def CsrFile.read (c : CsrFile) : ConfigReg → Word
  | .ledCount => c.ledCount.setWidth 32
  | .channelOrder => c.channelOrder.setWidth 32
  | .symbolBits => c.symbolBits.setWidth 32
  | .pattern0 => c.pattern0
  | .pattern1 => c.pattern1
  | .clockRate => c.clockRate
  | .resetLead => c.resetLead.setWidth 32
  | .resetTrail => c.resetTrail.setWidth 32
  | .spiBus => c.spiBus
  | .spiDevice => c.spiDevice

/-- csr[n] <- d for a configuration register. -/
def CsrFile.write (c : CsrFile) (r : ConfigReg) (d : Word) : CsrFile :=
  match r with
  | .ledCount => { c with ledCount := d.setWidth 24 }
  | .channelOrder => { c with channelOrder := d.setWidth 8 }
  | .symbolBits => { c with symbolBits := d.setWidth 8 }
  | .pattern0 => { c with pattern0 := d }
  | .pattern1 => { c with pattern1 := d }
  | .clockRate => { c with clockRate := d }
  | .resetLead => { c with resetLead := d.setWidth 24 }
  | .resetTrail => { c with resetTrail := d.setWidth 24 }
  | .spiBus => { c with spiBus := d }
  | .spiDevice => { c with spiDevice := d }

/-- R183: the value a mapped register reads as. -/
def State.readCsr (s : State) : Csr → Word
  | .config r => s.csr.read r
  | .status => statusWord s.phase s.csr.lastErr
  | .frameLen => s.csr.frameLen
  | .renderCount => s.csr.renderCount

/-- csr[n] <- d on the state. -/
def State.writeCsr (s : State) (r : ConfigReg) (d : Word) : State := { s with csr := s.csr.write r d }

/-! ## Pixels -/

/-- R36, R134: the buffer has N pixels, each of C slots. -/
def pixelsFit (n c : Nat) (pix : List (List Byte)) : Bool := pix.length == n && pix.all (fun p => p.length == c)

/-- R9: Pix(i, k). -/
def State.slot (s : State) (i k : Nat) : Byte := (s.pix.getD i []).getD k 0

/-- R152: [Pix(i, 0), ..., Pix(i, C-1)]. -/
def State.readPixel (s : State) (i : Nat) : List Byte := (List.range s.csr.channels).map (s.slot i)

/-- R150: Pix(i, k) <- d[31-8k : 24-8k] for k in 0..C-1, in one step (R69). -/
def State.writePixel (s : State) (i : Nat) (d : Word) : State :=
  { s with pix := s.pix.set i (unpack s.csr.channels d) }

/-- R154: Pix(i, k) <- d[31-8k : 24-8k] for every pixel, in one step (R69). -/
def State.fillPixels (s : State) (d : Word) : State :=
  { s with pix := List.replicate s.csr.numLeds (unpack s.csr.channels d) }

/-- R156, R184: every slot of every pixel is 0x00. -/
def State.zeroPixels (s : State) : State :=
  { s with pix := List.replicate s.csr.numLeds (List.replicate s.csr.channels 0) }

/-! ## Responses and errors -/

/-- The command has succeeded: the host gets status OK and the data (R9 `respond`, R82). -/
def State.answered (s : State) (d : RData) : State := { s with responses := s.responses ++ [⟨.ok, d⟩] }

/-- R212: STATUS.LAST_ERR <- E, and the host gets (E, none). Nothing else is written. -/
def State.failed (s : State) (e : StatusCode) : State :=
  { s with csr := { s.csr with lastErr := e }, responses := s.responses ++ [⟨e, .nothing⟩] }

/-- R9: `respond(data)`. -/
def respond (d : RData) (s : State) : Host.Outcome State Fault Refusal := .next (s.answered d)

/-- R9, R212: `raise E`, the one way a command fails. The block saves no program counter and jumps nowhere (R216); it
is then ready for the next command. -/
def raise (e : StatusCode) (s : State) : Host.Outcome State Fault Refusal := .next (s.failed e)

/-! ## The transport -/

/-- R14, R222: how the next wait for the transport ends: as the environment's script says, else a free draw. -/
def State.nextOutcome (s : State) : WaitOutcome :=
  match s.transport with
  | [] => Config.transportOutcome s.draws
  | o :: _ => o

/-- R222: `Transmit(F)`: one call, the whole frame, at CLOCK_RATE; the wait ends with the next outcome. -/
def State.transmit (s : State) (frame : List Byte) : State :=
  { s with
    transport := s.transport.tail
    draws := s.draws + 1
    transmissions := s.transmissions ++ [⟨s.pix, frame, s.csr.clockRate, s.nextOutcome⟩] }

/-- R158: csr[RENDER_COUNT] <- (csr[RENDER_COUNT] + 1) mod 2^32. -/
def State.countRender (s : State) : State := { s with csr := { s.csr with renderCount := s.csr.renderCount + 1 } }

/-! ## Reset -/

/-- R240: the block goes to the state of R44. The host's and the transport's side of the ports are no state of the
block and stay; there is no response and no transmission. -/
def State.resetBlock (s : State) : State :=
  { s with phase := .unconfigured, csr := CsrFile.reset, lut := [], pix := [] }

end Sys2Proof.Machine
end

