-- ==== Sys2Proof/Machine/Csr.lean ====
section
/-! DEFINITION. CSR_WRITE (spec 43_configuration.md R180) and CSR_READ (R182). -/

namespace Sys2Proof.Machine

/-- R180: the bits of `d` outside the register's field. -/
def outsideField (r : ConfigReg) (d : Word) : Word := d &&& ~~~ fieldMask r

/-- R180: CSR_WRITE. The checks stand in the order of R214: unmapped, read-only, locked, bits outside the field. -/
def execCsrWrite (n : Index) (d : Word) (s : State) : Host.Outcome State Fault Refusal :=
  match csrAt n with
  | none => raise .illegalCommand s
  | some .status => raise .illegalCommand s
  | some .frameLen => raise .illegalCommand s
  | some .renderCount => raise .illegalCommand s
  | some (.config r) =>
    if s.phase = .ready then raise .configLocked s
    else if outsideField r d ≠ 0 then raise .configurationError s
    else respond .nothing (s.writeCsr r d)

/-- R182: CSR_READ, legal in both phases, with no side effect (R70). -/
def execCsrRead (n : Index) (s : State) : Host.Outcome State Fault Refusal :=
  match csrAt n with
  | none => raise .illegalCommand s
  | some x => respond (.word (s.readCsr x)) s

end Sys2Proof.Machine
end

