-- ==== Sys2Proof/Machine/BitEncoder.lean ====
section
/-! DEFINITION. The BitEncoder (spec 40_bit_encoder.md): symbols (R110), `encode_byte` (R111), the LUT (R112), its
inverse (R119), and the command that reads one entry, ENCODE (R114). -/

namespace Sys2Proof.Machine

/-- R8: `bits_S(p)`, the S-bit string of p[S-1:0], most significant bit first (R62). -/
def patternBits (S p : Nat) : List Bool := (List.range S).map (fun j => p.testBit (S - 1 - j))

/-- R110: the symbol of one LED bit. -/
def symbol (S p0 p1 : Nat) (b : Bool) : List Bool := patternBits S (if b then p1 else p0)

/-- The LED bits of a channel value, most significant first (R63). -/
def ledBits (v : Byte) : List Bool := (List.range 8).map (fun j => v.getLsbD (7 - j))

/-- R8: one byte from its eight bits, the first being bit 7. -/
def byteOfBits (b7 b6 b5 b4 b3 b2 b1 b0 : Bool) : Byte :=
  BitVec.ofNat 8 (b7.toNat * 128 + b6.toNat * 64 + b5.toNat * 32 + b4.toNat * 16
    + b3.toNat * 8 + b2.toNat * 4 + b1.toNat * 2 + b0.toNat)

/-- R8: `bytes(bs)`, the cut of a bit string into bytes. Bits after the last whole byte cannot occur (R64) and are
dropped. -/
def bytesOfBits : List Bool → List Byte
  | b7 :: b6 :: b5 :: b4 :: b3 :: b2 :: b1 :: b0 :: rest => byteOfBits b7 b6 b5 b4 b3 b2 b1 b0 :: bytesOfBits rest
  | _ => []

/-- R111: `encode_byte(v)`. -/
def encodeByte (S p0 p1 : Nat) (v : Byte) : List Byte := bytesOfBits ((ledBits v).flatMap (symbol S p0 p1))

/-- R111 under the configuration's S, P0 and P1. -/
def CsrFile.encodeByte (c : CsrFile) (v : Byte) : List Byte :=
  Sys2Proof.Machine.encodeByte c.symbolWidth c.patternZero c.patternOne v

/-- R112: the table INIT builds. -/
def CsrFile.buildLut (c : CsrFile) : List (List Byte) := (List.range 256).map (fun v => c.encodeByte (BitVec.ofNat 8 v))

/-- R9: LUT[v]. -/
def lutEntry (lut : List (List Byte)) (v : Byte) : List Byte := lut.getD v.toNat []

/-- R119: `decode_channel(s)`, the v with LUT[v] = s if there is one. A specification function: no command computes
it. -/
def decodeChannel (lut : List (List Byte)) (bs : List Byte) : Option Byte :=
  ((List.range 256).find? (fun v => lut[v]? == some bs)).map (BitVec.ofNat 8)

/-- R114: ENCODE reads one LUT entry. -/
def execEncode (d : Word) (s : State) : Host.Outcome State Fault Refusal :=
  if s.phase = .ready then
    match channelValue d with
    | none => raise .rangeError s
    | some v => respond (.bytes (lutEntry s.lut v)) s
  else raise .notInitialized s

end Sys2Proof.Machine
end

