-- ==== Sys2Proof/Machine/Init.lean ====
section
/-! DEFINITION. INIT (spec 43_configuration.md R184): the ordered checks of R185 with the pattern shape (R186), the
timing windows (R187) and the effective reset counts (R188), all in exact integers, and the configured state. -/

namespace Sys2Proof.Machine

/-- R186: `shape(p)`: the h with 1 ≤ h ≤ S-1 and p = (2^h - 1) << (S - h), if there is one. -/
def shape (S p : Nat) : Option Nat :=
  (List.range S).find? (fun h => decide (1 ≤ h) && p == (2 ^ h - 1) <<< (S - h))

/-- R187: a duration of n SPI bits at f Hz lies in [lo, hi] ns, both ends inclusive. -/
def inWindow (lo hi f n : Nat) : Bool := decide (lo * f ≤ n * 10 ^ 9) && decide (n * 10 ^ 9 ≤ hi * f)

/-- R187: the four windows, for h0 and h1 high bits of S. -/
def windowsHold (p : Params) (f S h0 h1 : Nat) : Bool :=
  inWindow p.t0hMinNs p.t0hMaxNs f h0 && inWindow p.t0lMinNs p.t0lMaxNs f (S - h0)
    && inWindow p.t1hMinNs p.t1hMaxNs f h1 && inWindow p.t1lMinNs p.t1lMaxNs f (S - h1)

/-- R185 checks 7 and 8 together need the shapes; without one, check 8 is not reached (R214). -/
def patternTimingHolds (p : Params) (c : CsrFile) : Bool :=
  match shape c.symbolWidth c.patternZero, shape c.symbolWidth c.patternOne with
  | some h0, some h1 => windowsHold p c.clockHz c.symbolWidth h0 h1
  | _, _ => false

/-- R8: ⌈a / b⌉. -/
def ceilDiv (a b : Nat) : Nat := (a + b - 1) / b

/-- R188: `need`, the least byte count whose duration reaches T_RESET_MIN_NS at f. -/
def neededBytes (p : Params) (f : Nat) : Nat := ceilDiv (p.tResetMinNs * f) (8 * 10 ^ 9)

/-- R188: the effective count of a reset register: AUTO for 0, else the value written. -/
def effectiveCount (p : Params) (f r : Nat) : Nat := if r = 0 then neededBytes p f else r

/-- R188: the count lasts at least T_RESET_MIN_NS. -/
def lastsLongEnough (p : Params) (f e : Nat) : Bool := decide (p.tResetMinNs * f ≤ e * (8 * 10 ^ 9))

/-- R188: the effective leading count. -/
def effectiveLead (p : Params) (c : CsrFile) : Nat := effectiveCount p c.clockHz c.leadBytes

/-- R188: the effective trailing count. -/
def effectiveTrail (p : Params) (c : CsrFile) : Nat := effectiveCount p c.clockHz c.trailBytes

/-- R185: checks 1 to 10 in order, each with the error it names; 9 and 10 come for the leading count first. -/
def configChecks (p : Params) (c : CsrFile) : List (Bool × StatusCode) :=
  [ (decide (1 ≤ c.numLeds) && decide (c.numLeds ≤ p.maxLedCount), .configurationError),
    ((slotColours c.channelOrder).isSome, .configurationError),
    (decide (1 ≤ c.clockHz), .configurationError),
    (decide (2 ≤ c.symbolWidth) && decide (c.symbolWidth ≤ 32), .configurationError),
    (decide (c.pattern0.toNat < 2 ^ c.symbolWidth) && decide (c.pattern1.toNat < 2 ^ c.symbolWidth),
      .configurationError),
    (c.patternZero != c.patternOne, .configurationError),
    ((shape c.symbolWidth c.patternZero).isSome && (shape c.symbolWidth c.patternOne).isSome,
      .protocolTimingViolation),
    (patternTimingHolds p c, .protocolTimingViolation),
    (decide (effectiveLead p c ≤ 0xFFFFFF), .configurationError),
    (lastsLongEnough p c.clockHz (effectiveLead p c), .protocolTimingViolation),
    (decide (effectiveTrail p c ≤ 0xFFFFFF), .configurationError),
    (lastsLongEnough p c.clockHz (effectiveTrail p c), .protocolTimingViolation) ]

/-- R214: the error of the first check that fails, if one does. -/
def firstFailure : List (Bool × StatusCode) → Option StatusCode
  | [] => none
  | (passed, e) :: rest => if passed then firstFailure rest else some e

/-- R185: all of INIT's checks, check 0 (the phase) first. -/
def initFailure (s : State) : Option StatusCode :=
  firstFailure ((s.phase == .unconfigured, .configLocked) :: configChecks s.params s.csr)

/-- R184: the registers after a successful INIT: the effective reset counts and FRAME_LEN. -/
def CsrFile.configured (p : Params) (c : CsrFile) : CsrFile :=
  { c with
    resetLead := BitVec.ofNat 24 (effectiveLead p c)
    resetTrail := BitVec.ofNat 24 (effectiveTrail p c)
    frameLen := BitVec.ofNat 32 (effectiveLead p c + c.numLeds * c.channels * c.symbolWidth + effectiveTrail p c) }

/-- R184: the state after a successful INIT: registers, LUT (R112), a buffer of zeros (R36), READY. -/
def State.configured (s : State) : State :=
  { s.zeroPixels with
    phase := .ready
    csr := s.csr.configured s.params
    lut := s.csr.buildLut }

/-- R184: INIT, all or nothing (R189). -/
def execInit (s : State) : Host.Outcome State Fault Refusal :=
  match initFailure s with
  | some e => raise e s
  | none => respond .nothing s.configured

end Sys2Proof.Machine
end

