-- ==== Sys2Proof/Machine/Pixels.lean ====
section
/-! DEFINITION. The pixel buffer commands (spec 42_led_strip.md): SET_PIXEL (R150), GET_PIXEL (R152), FILL (R154) and
CLEAR (R156). -/

namespace Sys2Proof.Machine

/-- R150: SET_PIXEL. -/
def execSetPixel (i : Index) (d : Word) (s : State) : Host.Outcome State Fault Refusal :=
  if s.phase = .ready then
    if i.toNat < s.csr.numLeds then respond .nothing (s.writePixel i.toNat d) else raise .rangeError s
  else raise .notInitialized s

/-- R152: GET_PIXEL. -/
def execGetPixel (i : Index) (s : State) : Host.Outcome State Fault Refusal :=
  if s.phase = .ready then
    if i.toNat < s.csr.numLeds then respond (.word (pack (s.readPixel i.toNat))) s else raise .rangeError s
  else raise .notInitialized s

/-- R154, R155: FILL writes the whole buffer. -/
def execFill (d : Word) (s : State) : Host.Outcome State Fault Refusal :=
  if s.phase = .ready then respond .nothing (s.fillPixels d) else raise .notInitialized s

/-- R156: CLEAR. -/
def execClear (s : State) : Host.Outcome State Fault Refusal :=
  if s.phase = .ready then respond .nothing s.zeroPixels else raise .notInitialized s

end Sys2Proof.Machine
end

