-- ==== Sys2Proof/Machine/FrameBuilder.lean ====
section
/-! DEFINITION. The FrameBuilder (spec 41_frame_builder.md R130 to R137) and its inverse (R141). -/

namespace Sys2Proof.Machine

/-- R8: a sequence of n bytes of value 0x00. -/
def zeros (n : Nat) : List Byte := List.replicate n 0

/-- R130 to R132: every pixel's channels through the LUT, pixel 0 and slot 0 first. -/
def activeRegion (lut : List (List Byte)) (pix : List (List Byte)) : List Byte :=
  pix.flatMap (fun p => p.flatMap (lutEntry lut))

/-- R130: `build_frame`. R134: a buffer whose shape is not N pixels of C slots is a ConfigurationError, which no
command can cause. -/
def buildFrame (c : CsrFile) (lut pix : List (List Byte)) : Except StatusCode (List Byte) :=
  if pixelsFit c.numLeds c.channels pix then
    .ok (zeros c.leadBytes ++ activeRegion lut pix ++ zeros c.trailBytes)
  else .error .configurationError

/-- The S bytes of slot (i, k) in a frame (R141). -/
def frameSlot (c : CsrFile) (frame : List Byte) (i k : Nat) : List Byte :=
  (frame.drop (c.leadBytes + (i * c.channels + k) * c.symbolWidth)).take c.symbolWidth

/-- R141: `decode_frame`. A specification function: no command computes it, and it ignores the reset regions. -/
def decodeFrame (c : CsrFile) (lut : List (List Byte)) (frame : List Byte) : Option (List (List Byte)) :=
  if frame.length = c.frameLength then
    (List.range c.numLeds).mapM (fun i =>
      (List.range c.channels).mapM (fun k => decodeChannel lut (frameSlot c frame i k)))
  else none

end Sys2Proof.Machine
end

