-- ==== Sys2Proof/Machine/Render.lean ====
section
/-! DEFINITION. RENDER (spec 42_led_strip.md R158 to R162), with the reset that arrives while it waits
(70_reset_and_hazards.md R243). -/

namespace Sys2Proof.Machine

/-- The end of a RENDER whose frame has been counted and is handed over: `s` is the state at the hand-over. -/
def finishRender (s : State) (frame : List Byte) : Host.Outcome State Fault Refusal :=
  match s.nextOutcome with
  | .answered .ok => respond .nothing (s.transmit frame)
  | .answered .fail => raise .transportError (s.transmit frame)
  | .never => .fault .transportNeverAnswers
  | .reset _ => .next (s.transmit frame).resetBlock

/-- R158: RENDER. The frame is built from the buffer as it stands (R74); the build can fail only on a buffer of the
wrong shape (R134), before anything is counted. -/
def execRender (s : State) : Host.Outcome State Fault Refusal :=
  if s.phase = .ready then
    match buildFrame s.csr s.lut s.pix with
    | .error e => raise e s
    | .ok frame => finishRender s.countRender frame
  else raise .notInitialized s

end Sys2Proof.Machine
end

