-- ==== Sys2Proof/Machine/Dispatch.lean ====
section
/-! DEFINITION. One arm per command: the meaning of each row of spec/opcode_table.json. -/

namespace Sys2Proof.Machine

def exec (i : Instr) (s : State) : Host.Outcome State Fault Refusal :=
  match i with
  | .csrWrite n value => Sys2Proof.Machine.execCsrWrite n value s
  | .csrRead n => Sys2Proof.Machine.execCsrRead n s
  | .init => Sys2Proof.Machine.execInit s
  | .setPixel idx color => Sys2Proof.Machine.execSetPixel idx color s
  | .getPixel idx => Sys2Proof.Machine.execGetPixel idx s
  | .fill color => Sys2Proof.Machine.execFill color s
  | .clear => Sys2Proof.Machine.execClear s
  | .encode v => Sys2Proof.Machine.execEncode v s
  | .render => Sys2Proof.Machine.execRender s

end Sys2Proof.Machine
end

