-- ==== Sys2Proof/Machine/Port.lean ====
section
/-! DEFINITION. The command port (spec 30_encoding.md R81, 20_memory.md R74): taking the host's next event, running one
command word, and putting a word at the port. -/

namespace Sys2Proof.Machine

/-- The host's next event, and the state in which the host has delivered it. -/
def State.takeEvent (s : State) : Option (HostEvent × State) :=
  match s.host with
  | [] => none
  | e :: rest => some (e, { s with host := rest })

/-- R93, R88: run one command word: the decoded command, or IllegalCommand for a reserved opcode. -/
def runWord (w : CmdWord) (s : State) : Host.Outcome State Fault Refusal :=
  match decode w with
  | .command i => exec i s
  | .illegal _ => raise .illegalCommand s

/-- One event of the host: a command word, or the reset input (R240: no response, no transmission). -/
def runEvent (e : HostEvent) (s : State) : Host.Outcome State Fault Refusal :=
  match e with
  | .command w => runWord w s
  | .reset => .next s.resetBlock

/-- The word `w` becomes the next thing the host sends. -/
def State.deliver (s : State) (w : CmdWord) : State := { s with host := .command w :: s.host }

end Sys2Proof.Machine
end

