-- ==== Sys2Proof/Machine/Step.lean ====
section
/-! DEFINITION. One step of the machine (spec 00_scope.md R3, R14): the block takes the host's next event. -/

namespace Sys2Proof.Machine

/-- One event of the host is one atomic step (R3, R74). With no event, the block is idle and holds all state (R225). -/
def step (s : State) : Host.Outcome State Fault Refusal :=
  match s.takeEvent with
  | none => .next s
  | some (e, s') => runEvent e s'

/-- `s` with the instruction of `nbits` bits `w` (numbered as spec/opcode_table.json numbers them) as the next word the
host sends, so that the next step runs it. The block fetches nothing itself (R39): this stands for the host (log
entry 3). -/
def State.withFetchWord (s : State) (nbits w : Nat) : State := s.deliver (BitVec.ofNat 64 (w % 2 ^ nbits))

end Sys2Proof.Machine
end

