-- ==== Sys2Proof/Machine/Assembler.lean ====
section
/-! DEFINITION. The assembler syntax of spec 30_encoding.md R91 and the pseudo-instructions of R92: a line of text, the
form it has, the commands that form stands for, their words. -/

namespace Sys2Proof.Machine

/-- R91, R92: a line's form, its operands as written (natural numbers of any size). -/
inductive AsmForm where
  | csrw (csr imm : Nat)
  | csrr (csr : Nat)
  | init
  | setpix (idx color : Nat)
  | getpix (idx : Nat)
  | fill (color : Nat)
  | clear
  | encode (imm : Nat)
  | render
  | resetMargin (n : Nat)
  | strip (n : Nat)
  | setpix3 (idx s0 s1 s2 : Nat)
  | setpix4 (idx s0 s1 s2 s3 : Nat)
  | fill3 (s0 s1 s2 : Nat)
  deriving DecidableEq, Repr

/-- An operand for the IDX field; a number of 2^24 or more cannot be written (R214). -/
def asmIndex (n : Nat) : Option Index := if n < 2 ^ 24 then some (BitVec.ofNat 24 n) else none

/-- An operand for the DATA field. -/
def asmData (n : Nat) : Option Word := if n < 2 ^ 32 then some (BitVec.ofNat 32 n) else none

/-- R92: a slot operand, 0..255; "the assembler rejects any other value". -/
def asmSlot (n : Nat) : Option Nat := if n ≤ 255 then some n else none

/-- R92: (s0<<24)|(s1<<16)|(s2<<8)|s3 for slots of 8 bits. -/
def asmColour (s0 s1 s2 s3 : Nat) : Option Word := do
  let a ← asmSlot s0
  let b ← asmSlot s1
  let c ← asmSlot s2
  let d ← asmSlot s3
  pure (BitVec.ofNat 32 (a <<< 24 ||| b <<< 16 ||| c <<< 8 ||| d))

/-- R91, R92: the commands a form stands for, if its operands fit their fields. -/
def AsmForm.expand : AsmForm → Option (List Instr)
  | .csrw csr imm => do pure [.csrWrite (← asmIndex csr) (← asmData imm)]
  | .csrr csr => do pure [.csrRead (← asmIndex csr)]
  | .init => some [.init]
  | .setpix idx color => do pure [.setPixel (← asmIndex idx) (← asmData color)]
  | .getpix idx => do pure [.getPixel (← asmIndex idx)]
  | .fill color => do pure [.fill (← asmData color)]
  | .clear => some [.clear]
  | .encode imm => do pure [.encode (← asmData imm)]
  | .render => some [.render]
  | .resetMargin n => do
    pure [.csrWrite ConfigReg.resetLead.number (← asmData n), .csrWrite ConfigReg.resetTrail.number (← asmData n)]
  | .strip n => do pure [.csrWrite ConfigReg.ledCount.number (← asmData n), .init]
  | .setpix3 idx s0 s1 s2 => do pure [.setPixel (← asmIndex idx) (← asmColour s0 s1 s2 0)]
  | .setpix4 idx s0 s1 s2 s3 => do pure [.setPixel (← asmIndex idx) (← asmColour s0 s1 s2 s3)]
  | .fill3 s0 s1 s2 => do pure [.fill (← asmColour s0 s1 s2 0)]

/-- The words of a form. -/
def AsmForm.words (a : AsmForm) : Option (List CmdWord) := a.expand.map (List.map Sys2Proof.encode)

/-! ## Text -/

/-- White space inside a line. -/
def asmBlank (c : Char) : Bool := c == ' ' || c == '\t' || c == '\r'

/-- The text without white space at either end. -/
def asmTrim (cs : List Char) : List Char := ((cs.dropWhile asmBlank).reverse.dropWhile asmBlank).reverse

/-- The pieces of the text between occurrences of `sep`. -/
def asmSplit (sep : Char) : List Char → List (List Char)
  | [] => [[]]
  | c :: cs =>
    if c = sep then [] :: asmSplit sep cs
    else match asmSplit sep cs with
      | [] => [[c]]
      | w :: ws => (c :: w) :: ws

/-- The value of one digit. -/
def asmDigit (base : Nat) (c : Char) : Option Nat :=
  let n := c.toNat
  let v := if 48 ≤ n && n ≤ 57 then n - 48 else if 97 ≤ n && n ≤ 102 then n - 87 else if 65 ≤ n && n ≤ 70 then n - 55 else 16
  if v < base then some v else none

/-- A string of digits after the value `acc`. -/
def asmDigits (base acc : Nat) : List Char → Option Nat
  | [] => some acc
  | c :: cs => (asmDigit base c).bind (fun d => asmDigits base (acc * base + d) cs)

/-- R91: "Immediates are decimal or `0x` hexadecimal." -/
def asmNumber : List Char → Option Nat
  | [] => none
  | ['0', 'x'] => none
  | '0' :: 'x' :: ds => asmDigits 16 0 ds
  | ds => asmDigits 10 0 ds

/-- R91: the names a `<csr>` operand may have. -/
def asmCsrNames : List (String × Nat) :=
  [("LED_COUNT", 0x00), ("CHANNEL_ORDER", 0x01), ("SYMBOL_BITS", 0x02), ("PATTERN0", 0x03), ("PATTERN1", 0x04),
   ("CLOCK_RATE", 0x05), ("RESET_LEAD", 0x06), ("RESET_TRAIL", 0x07), ("SPI_BUS", 0x08), ("SPI_DEVICE", 0x09),
   ("STATUS", 0x10), ("FRAME_LEN", 0x11), ("RENDER_COUNT", 0x12)]

/-- R91: a `<csr>` operand is a number, or one of the names. -/
def asmCsr (cs : List Char) : Option Nat :=
  match asmCsrNames.find? (fun e => e.1.toList == cs) with
  | some e => some e.2
  | none => asmNumber cs

/-- R91, R92: the form of each mnemonic, from its operands. -/
def asmTable : List (String × (List (List Char) → Option AsmForm)) :=
  [("CSRW", fun
      | [c, v] => do pure (.csrw (← asmCsr c) (← asmNumber v))
      | _ => none),
   ("CSRR", fun
      | [c] => do pure (.csrr (← asmCsr c))
      | _ => none),
   ("INIT", fun
      | [] => some .init
      | _ => none),
   ("SETPIX", fun
      | [i, d] => do pure (.setpix (← asmNumber i) (← asmNumber d))
      | _ => none),
   ("GETPIX", fun
      | [i] => do pure (.getpix (← asmNumber i))
      | _ => none),
   ("FILL", fun
      | [d] => do pure (.fill (← asmNumber d))
      | _ => none),
   ("CLEAR", fun
      | [] => some .clear
      | _ => none),
   ("ENCODE", fun
      | [v] => do pure (.encode (← asmNumber v))
      | _ => none),
   ("RENDER", fun
      | [] => some .render
      | _ => none),
   ("RESETMARGIN", fun
      | [n] => do pure (.resetMargin (← asmNumber n))
      | _ => none),
   ("STRIP", fun
      | [n] => do pure (.strip (← asmNumber n))
      | _ => none),
   ("SETPIX3", fun
      | [i, a, b, c] => do pure (.setpix3 (← asmNumber i) (← asmNumber a) (← asmNumber b) (← asmNumber c))
      | _ => none),
   ("SETPIX4", fun
      | [i, a, b, c, d] => do
        pure (.setpix4 (← asmNumber i) (← asmNumber a) (← asmNumber b) (← asmNumber c) (← asmNumber d))
      | _ => none),
   ("FILL3", fun
      | [a, b, c] => do pure (.fill3 (← asmNumber a) (← asmNumber b) (← asmNumber c))
      | _ => none)]

/-- The operands after a mnemonic, separated by commas; none if nothing is written. -/
def asmOperands (cs : List Char) : List (List Char) :=
  let t := asmTrim cs
  if t.isEmpty then [] else (asmSplit ',' t).map asmTrim

/-- R91: one line. `some none` is a line with nothing but white space and a comment; `none` is not a line of the
syntax. -/
def asmLine (cs : List Char) : Option (Option AsmForm) :=
  let body := asmTrim (cs.takeWhile (fun c => c != ';'))
  if body.isEmpty then some none
  else
    let mnemonic := (body.takeWhile (fun c => !asmBlank c)).map Char.toUpper
    match asmTable.find? (fun e => e.1.toList == mnemonic) with
    | some e => (e.2 (asmOperands (body.dropWhile (fun c => !asmBlank c)))).map some
    | none => none

/-- The words of one line; a blank line has none. -/
def asmLineWords (cs : List Char) : Option (List CmdWord) :=
  match asmLine cs with
  | some (some a) => a.words
  | some none => some []
  | none => none

/-- R91: the words of a program text, "One command per line". -/
def assemble (text : String) : Option (List CmdWord) :=
  ((asmSplit '\n' text.toList).mapM asmLineWords).map List.flatten

end Sys2Proof.Machine
end

