-- ==== Sys2Proof/Machine/Wire.lean ====
section
/-! DEFINITION. The SPI bitstream (spec 41_frame_builder.md R138 to R140, 20_memory.md R66) and what the transport's
record says of the wire and of the LEDs (R42, R242, R243), one call at a time and over successive calls (R143). The
mapping to the wire holds on the transport's duties of decisions D32 and D35: bytes back to back at CLOCK_RATE, the line
low when idle (log entry 5). No command reads
anything of this file. -/

namespace Sys2Proof.Machine

/-- The bits of a byte in wire order: bit 7 first (R66). -/
def byteBits (b : Byte) : List Bool := (List.range 8).map (fun j => b.getLsbD (7 - j))

/-- R138: the wire bits of a frame; `true` drives the line high. -/
def wireBits (frame : List Byte) : List Bool := frame.flatMap byteBits

/-- R138: the interval [j/f, (j+1)/f) that bit j occupies, in seconds from the start of the frame. -/
def bitInterval (f j : Nat) : Rat × Rat := ((j : Rat) / f, ((j + 1 : Nat) : Rat) / f)

/-- R138, R250: the frame lasts 8·L/f seconds. -/
def frameSeconds (f : Nat) (frame : List Byte) : Rat := ((8 * frame.length : Nat) : Rat) / f

/-- What reached the wire in one `Transmit` call, where the spec says: all of it if the transport answered `ok`; some
leading part if reset cut the wait short (R243); not stated where the transport failed. -/
def Transmission.wire (t : Transmission) : Option (List Bool) :=
  match t.outcome with
  | .answered .ok => some (wireBits t.frame)
  | .answered .fail => none
  | .never => none
  | .reset bits => some ((wireBits t.frame).take bits)

/-- One stretch of the data line: its level, if the spec states it (`true` is high), and how long it lasts. -/
structure Stretch where
  level : Option Bool
  seconds : Rat
  deriving DecidableEq, Repr

/-- R138: bits one after another at f Hz, with no gap between them. -/
def bitStretches (f : Nat) (bits : List Bool) : List Stretch := bits.map (fun b => ⟨some b, 1 / (f : Rat)⟩)

/-- The line during one call. Where the spec does not state what reached the wire (R42), it is one stretch of no stated
level, which lasts `unstated` seconds. -/
def Transmission.stretches (t : Transmission) (unstated : Rat) : List Stretch :=
  match t.wire with
  | some bits => bitStretches t.clockRate.toNat bits
  | none => [⟨none, unstated⟩]

/-- R75, R143, D32: the line over successive calls, the first of which has number n. Each call's frame follows the one
before in full, after the line has idled low for `idle k` seconds before call k; the block fixes neither that time nor
how long a call takes that fails (log entry 16). -/
def lineOver (idle unstated : Nat → Rat) : Nat → List Transmission → List Stretch
  | _, [] => []
  | n, t :: rest => ⟨some false, idle n⟩ :: (t.stretches (unstated n) ++ lineOver idle unstated (n + 1) rest)

/-- R143: the line from the first call on. -/
def State.line (s : State) (idle unstated : Nat → Rat) : List Stretch := lineOver idle unstated 0 s.transmissions

/-- How long a part of the line lasts. -/
def lineSeconds (l : List Stretch) : Rat := (l.map Stretch.seconds).sum

/-- What the physical LEDs show, where the spec says (R42, R242): the snapshot of the last RENDER if its write
succeeded; unknown (`none`) before any RENDER, after a failed one, and after one that reset cut short (R243). -/
def State.ledsShow (s : State) : Option (List (List Byte)) :=
  match s.transmissions.getLast? with
  | none => none
  | some t => if t.outcome = .answered .ok then some t.snapshot else none

end Sys2Proof.Machine
end

