-- ==== Sys2Proof/Safety.lean ====
section
/-! DEFINITION. The terms claims are stated in: the consistent states (those the rules of spec 10_state.md R20, R32,
R35, R36, R43 and 20_memory.md R77 describe), the values after reset (R44), and which steps reset the block. -/

namespace Sys2Proof.Machine

/-- What R44 and R33 say of UNCONFIGURED: no LUT, no pixel buffer, FRAME_LEN 0, and no RENDER counted. -/
abbrev State.NotBuilt (s : State) : Prop :=
  s.lut = [] ∧ s.pix = [] ∧ s.csr.frameLen = 0 ∧ s.csr.renderCount = 0

/-- What holds in READY: the locked configuration passes INIT's checks 1 to 10 (R185), the LUT is `encode_byte` of every
value (R77), the buffer is N pixels of C slots (R36), FRAME_LEN is L (R32), and the reset registers hold their effective
counts, no longer AUTO (R28, R184). -/
abbrev State.Built (s : State) : Prop :=
  firstFailure (configChecks s.params s.csr) = none ∧ s.lut = s.csr.buildLut
    ∧ pixelsFit s.csr.numLeds s.csr.channels s.pix = true ∧ s.csr.frameLen.toNat = s.csr.frameLength
    ∧ s.csr.leadBytes = effectiveLead s.params s.csr ∧ s.csr.trailBytes = effectiveTrail s.params s.csr

/-- The invariant of the machine. -/
abbrev State.Consistent (s : State) : Prop :=
  (s.phase = .unconfigured → s.NotBuilt) ∧ (s.phase = .ready → s.Built)

/-- R44: every part of the block at its reset value. LUT and pixel buffer do not exist. -/
abbrev State.BlockAtReset (s : State) : Prop :=
  s.phase = .unconfigured
    ∧ s.csr.read .ledCount = 0 ∧ s.csr.read .channelOrder = 0 ∧ s.csr.read .symbolBits = 8
    ∧ s.csr.read .pattern0 = 0x000000C0 ∧ s.csr.read .pattern1 = 0x000000F8 ∧ s.csr.read .clockRate = 6400000
    ∧ s.csr.read .resetLead = 0 ∧ s.csr.read .resetTrail = 0 ∧ s.csr.read .spiBus = 0 ∧ s.csr.read .spiDevice = 0
    ∧ s.readCsr .status = 0 ∧ s.readCsr .frameLen = 0 ∧ s.readCsr .renderCount = 0 ∧ s.lut = [] ∧ s.pix = []

/-- The next step resets the block: the host asserts the reset input (R240), or it sends RENDER and the reset input is
asserted while the RENDER waits for the transport (R243). -/
def State.StepResets (s : State) : Prop :=
  s.host.head? = some .reset
    ∨ ((∃ w, s.host.head? = some (.command w) ∧ decode w = .command .render) ∧ s.phase = .ready
      ∧ pixelsFit s.csr.numLeds s.csr.channels s.pix = true ∧ ∃ bits, s.nextOutcome = .reset bits)

/-- Run commands one after the other; `none` if one of them does not complete. -/
def runCommands : List Instr → State → Option State
  | [], s => some s
  | i :: is, s =>
    match exec i s with
    | .next t => runCommands is t
    | .fault _ => none
    | .refused _ => none

/-- Take host events one after the other; `none` if one of them does not complete. -/
def runEvents : List HostEvent → State → Option State
  | [], s => some s
  | e :: es, s =>
    match runEvent e s with
    | .next t => runEvents es t
    | .fault _ => none
    | .refused _ => none

end Sys2Proof.Machine
end

