-- ==== Sys2Proof/Certificates/Slice0/Obligations.lean ====
section
/-! DEFINITION. The statements for the provers. Each docstring names the rule of spec/ it formalises, or says what it
rests on. In a statement about one command, the next state is written out as a record over the state before, so that
everything it does not name is unchanged. -/

open Sys2Proof Sys2Proof.Machine

namespace Sys2Proof.Spec

/-- The state after a command that failed with `e`, as R212 says it. -/
def afterError (s : State) (e : StatusCode) : State :=
  { s with csr := { s.csr with lastErr := e }, responses := s.responses ++ [⟨e, .nothing⟩] }

/-- R181's table, by number. -/
def maskAt (n : Nat) : Word :=
  if n = 0x00 ∨ n = 0x06 ∨ n = 0x07 then 0x00FFFFFF else if n = 0x01 ∨ n = 0x02 then 0x000000FF else 0xFFFFFFFF

/-- CSR_READ of register `n` returns `w`, and nothing but the list of responses changes. -/
def readGives (s : State) (n : Index) (w : Word) : Prop :=
  exec (.csrRead n) s = .next { s with responses := s.responses ++ [⟨.ok, .word w⟩] }

/-- R186: `p` is h high bits followed by S-h low bits. -/
def hasShape (S p h : Nat) : Prop := 1 ≤ h ∧ h ≤ S - 1 ∧ p = (2 ^ h - 1) * 2 ^ (S - h)

/-- R187, for h0 and h1 high bits. -/
def windows (p : Params) (f S h0 h1 : Nat) : Prop :=
  (p.t0hMinNs * f ≤ h0 * 10 ^ 9 ∧ h0 * 10 ^ 9 ≤ p.t0hMaxNs * f)
    ∧ (p.t0lMinNs * f ≤ (S - h0) * 10 ^ 9 ∧ (S - h0) * 10 ^ 9 ≤ p.t0lMaxNs * f)
    ∧ (p.t1hMinNs * f ≤ h1 * 10 ^ 9 ∧ h1 * 10 ^ 9 ≤ p.t1hMaxNs * f)
    ∧ (p.t1lMinNs * f ≤ (S - h1) * 10 ^ 9 ∧ (S - h1) * 10 ^ 9 ≤ p.t1lMaxNs * f)

/-- R188: the effective count of a reset register holding `r`, at f Hz. -/
def effective (p : Params) (f r : Nat) : Nat :=
  if r = 0 then (p.tResetMinNs * f + 8 * 10 ^ 9 - 1) / (8 * 10 ^ 9) else r

/-- R185 and R188: INIT's checks in the order they are made. 0 to 8 are R185's; 9 and 10 are its checks 9 and 10 for
RESET_LEAD, 11 and 12 the same two for RESET_TRAIL. -/
def initCheck (s : State) : Nat → Prop
  | 0 => s.phase = .unconfigured
  | 1 => 1 ≤ s.csr.ledCount.toNat ∧ s.csr.ledCount.toNat ≤ s.params.maxLedCount
  | 2 => s.csr.channelOrder = 0 ∨ s.csr.channelOrder = 1 ∨ s.csr.channelOrder = 2
  | 3 => 1 ≤ s.csr.clockRate.toNat
  | 4 => 2 ≤ s.csr.symbolBits.toNat ∧ s.csr.symbolBits.toNat ≤ 32
  | 5 => s.csr.pattern0.toNat < 2 ^ s.csr.symbolBits.toNat ∧ s.csr.pattern1.toNat < 2 ^ s.csr.symbolBits.toNat
  | 6 => s.csr.pattern0.toNat % 2 ^ s.csr.symbolBits.toNat ≠ s.csr.pattern1.toNat % 2 ^ s.csr.symbolBits.toNat
  | 7 => (∃ h, hasShape s.csr.symbolBits.toNat (s.csr.pattern0.toNat % 2 ^ s.csr.symbolBits.toNat) h)
      ∧ ∃ h, hasShape s.csr.symbolBits.toNat (s.csr.pattern1.toNat % 2 ^ s.csr.symbolBits.toNat) h
  | 8 => ∃ h0 h1, hasShape s.csr.symbolBits.toNat (s.csr.pattern0.toNat % 2 ^ s.csr.symbolBits.toNat) h0
      ∧ hasShape s.csr.symbolBits.toNat (s.csr.pattern1.toNat % 2 ^ s.csr.symbolBits.toNat) h1
      ∧ windows s.params s.csr.clockRate.toNat s.csr.symbolBits.toNat h0 h1
  | 9 => effective s.params s.csr.clockRate.toNat s.csr.resetLead.toNat ≤ 0xFFFFFF
  | 10 => s.params.tResetMinNs * s.csr.clockRate.toNat
      ≤ effective s.params s.csr.clockRate.toNat s.csr.resetLead.toNat * 8 * 10 ^ 9
  | 11 => effective s.params s.csr.clockRate.toNat s.csr.resetTrail.toNat ≤ 0xFFFFFF
  | _ => s.params.tResetMinNs * s.csr.clockRate.toNat
      ≤ effective s.params s.csr.clockRate.toNat s.csr.resetTrail.toNat * 8 * 10 ^ 9

/-- R185: the error each check names. -/
def initCheckError : Nat → StatusCode
  | 0 => .configLocked
  | 7 => .protocolTimingViolation
  | 8 => .protocolTimingViolation
  | 10 => .protocolTimingViolation
  | 12 => .protocolTimingViolation
  | _ => .configurationError

/-- R211: the codes "raised by" each command. -/
def mayRaise : Instr → List StatusCode
  | .csrWrite _ _ => [.illegalCommand, .configLocked, .configurationError]
  | .csrRead _ => [.illegalCommand]
  | .init => [.configLocked, .configurationError, .protocolTimingViolation]
  | .setPixel _ _ => [.notInitialized, .rangeError]
  | .getPixel _ => [.notInitialized, .rangeError]
  | .fill _ => [.notInitialized]
  | .clear => [.notInitialized]
  | .encode _ => [.notInitialized, .rangeError]
  | .render => [.notInitialized, .transportError]

/-- R82: the data a successful command returns. -/
def okData (s : State) : Instr → RData → Prop
  | .csrRead _, d => ∃ w, d = .word w
  | .getPixel _, d => ∃ w, d = .word w
  | .encode _, d => ∃ bs, d = .bytes bs ∧ bs.length = s.csr.symbolWidth
  | _, d => d = .nothing

/-- A command that neither mutates pixels nor renders. -/
def quiet : Instr → Prop
  | .setPixel _ _ => False
  | .fill _ => False
  | .clear => False
  | .render => False
  | _ => True

end Sys2Proof.Spec

open Sys2Proof.Spec

/-! ## Encoding and the command port -/

/-- R80, R87 (sanity): words written out field by field are the commands they stand for. -/
def Obligations.SpecWordsDecode : Prop :=
  decode 0x0100000000000018 = .command (.csrWrite 0 24)
    ∧ decode 0x0200001000000000 = .command (.csrRead 0x10)
    ∧ decode 0x0300000000000000 = .command .init
    ∧ decode 0x04000001123456AB = .command (.setPixel 1 0x123456AB)
    ∧ decode 0x0500000300000000 = .command (.getPixel 3)
    ∧ decode 0x06000000FFFFFF00 = .command (.fill 0xFFFFFF00)
    ∧ decode 0x0709ABCD12345678 = .command .clear
    ∧ decode 0x08ABCDEF000000A5 = .command (.encode 0xA5)
    ∧ decode 0x0900000000000000 = .command .render
    ∧ decode 0x0000000000000000 = .illegal 0
    ∧ decode 0x0A00000000000000 = .illegal 0x0A

/-- R87, R93: decoding the word of any command, with any operands, gives the command back. -/
def Obligations.DecodeOfEncodeIsIdentity : Prop := ∀ i : Instr, decode (encode i) = .command i

/-- R89, R91: a word decodes to a command only if it is that command's word but for its ignored fields. -/
def Obligations.EncodeOfDecodeClearsIgnoredFields : Prop :=
  ∀ (w : CmdWord) (i : Instr), decode w = .command i → encode i = clearIgnored w

/-- R88: a reserved opcode changes nothing but LAST_ERR and returns (IllegalCommand, none). -/
def Obligations.ReservedOpcodesAreIllegal : Prop :=
  ∀ (s : State) (w : CmdWord) (rest : List HostEvent), s.host = .command w :: rest →
    (opcOf w).toNat = 0 ∨ (0x0A ≤ (opcOf w).toNat ∧ (opcOf w).toNat ≤ 0xFF) →
    step s = .next (afterError { s with host := rest } .illegalCommand)

/-- R89: any value in an ignored field gives the same result as 0. -/
def Obligations.IgnoredFieldsHaveNoEffect : Prop :=
  (∀ (s : State) (w : CmdWord) (rest : List HostEvent), s.host = .command w :: rest →
    step s = step { s with host := .command (clearIgnored w) :: rest })
  ∧ decode 0x0709ABCD12345678 = .command .clear

/-- R3, R39, R74: a step runs the command the host sends next, and only that; an idle block holds all state (R225). -/
def Obligations.StepRunsTheDecodedCommand : Prop :=
  (∀ (s : State) (w : CmdWord) (rest : List HostEvent) (i : Instr), s.host = .command w :: rest →
    decode w = .command i → step s = exec i { s with host := rest })
  ∧ (∀ (s : State) (w : CmdWord) (i : Instr), decode w = .command i → step (s.withFetchWord 64 w.toNat) = exec i s)
  ∧ (∀ s : State, s.host = [] → step s = .next s)

/-! ## Reset and the invariant -/

/-- R44, R240: asserting the reset input takes the block to its reset values, with no response and no transmission, and
leaves the host's and the transport's side alone. That LUT and buffer are held as `[]` there is the model's choice
(log entry 4). -/
def Obligations.ResetInputGivesResetValues : Prop :=
  ∀ (s : State) (rest : List HostEvent), s.host = .reset :: rest →
    ∃ t, step s = .next t ∧ t.BlockAtReset ∧ t.responses = s.responses ∧ t.transmissions = s.transmissions
      ∧ t.params = s.params ∧ t.host = rest ∧ t.transport = s.transport ∧ t.draws = s.draws

/-- R44: the machine starts with every part of the block at its reset value, in a consistent state. -/
def Obligations.ResetStateIsConsistent : Prop := State.reset.BlockAtReset ∧ State.reset.Consistent

/-- R20, R32, R36, R77, R190: every step, from every consistent state, leads to a consistent state. -/
def Obligations.StepKeepsConsistency : Prop :=
  ∀ s t : State, s.Consistent → step s = .next t → t.Consistent

/-- R162 and R210: the machine always has a next state, except at a RENDER in READY whose transport never answers. -/
def Obligations.StepStopsOnlyAtASilentTransport : Prop :=
  ∀ s : State, (∃ t, step s = .next t)
    ∨ (step s = .fault .transportNeverAnswers ∧ s.phase = .ready ∧ s.nextOutcome = .never
      ∧ ∃ w rest, s.host = .command w :: rest ∧ decode w = .command .render)

/-- R20, R220, R240: READY ends only by a reset, and begins only by a successful INIT. -/
def Obligations.PhaseChangesOnlyByInitAndReset : Prop :=
  ∀ s t : State, step s = .next t →
    (s.phase = .ready → (t.phase = .unconfigured ↔ s.StepResets))
    ∧ (s.phase = .unconfigured → t.phase = .ready →
      t.responses = s.responses ++ [⟨.ok, .nothing⟩]
        ∧ ∃ w rest, s.host = .command w :: rest ∧ decode w = .command .init)

/-- R21, R43, R112: while the block stays READY, no step changes a configuration register, FRAME_LEN, the LUT or the
length of the buffer; no step ever changes the build's parameters. -/
def Obligations.ConfigurationIsConstantInReady : Prop :=
  ∀ s t : State, step s = .next t → t.params = s.params ∧
    (s.phase = .ready → ¬ s.StepResets →
      (∀ r, t.csr.read r = s.csr.read r) ∧ t.csr.frameLen = s.csr.frameLen ∧ t.lut = s.lut
        ∧ (s.Consistent → t.pix.length = s.pix.length))

/-! ## Responses and errors -/

/-- R212: what a failing command changes, reserved opcodes among them. -/
def Obligations.FailingCommandWritesOnlyLastErr : Prop :=
  ∀ (w : CmdWord) (s t : State) (r : Response), runWord w s = .next t → t.responses = s.responses ++ [r] →
    r.stat ≠ .ok → r.rdata = .nothing ∧
    if r.stat = .transportError then
      decode w = .command .render ∧ ∃ frame, buildFrame s.csr s.lut s.pix = .ok frame ∧
        t = { s with
          csr := { s.csr with lastErr := .transportError, renderCount := s.csr.renderCount + 1 }
          responses := s.responses ++ [⟨.transportError, .nothing⟩]
          transport := s.transport.tail
          draws := s.draws + 1
          transmissions := s.transmissions ++ [⟨s.pix, frame, s.csr.clockRate, .answered .fail⟩] }
    else t = afterError s r.stat

/-- R82: every command word returns exactly one response, of the kind its opcode has; only a RENDER that reset cuts
short returns none (R243). -/
def Obligations.EveryCommandReturnsOneResponse : Prop :=
  ∀ (w : CmdWord) (s t : State), s.Consistent → runWord w s = .next t →
    (∃ r, t.responses = s.responses ++ [r] ∧ (r.stat.code = 0 ↔ r.stat = .ok)
      ∧ (r.stat = .ok → ∃ i, decode w = .command i ∧ okData s i r.rdata) ∧ (r.stat ≠ .ok → r.rdata = .nothing))
    ∨ (decode w = .command .render ∧ (∃ bits, s.nextOutcome = .reset bits) ∧ t.responses = s.responses)

/-- R213: a successful command does not write LAST_ERR, a failing one writes its code, and only reset sets it to 0. -/
def Obligations.LastErrIsSticky : Prop :=
  ∀ s t : State, step s = .next t →
    (s.StepResets → t.csr.lastErr = .ok ∧ t.responses = s.responses)
    ∧ (¬ s.StepResets → s.host = [] → t = s)
    ∧ (¬ s.StepResets → s.host ≠ [] → ∃ r, t.responses = s.responses ++ [r]
        ∧ t.csr.lastErr = if r.stat = .ok then s.csr.lastErr else r.stat)

/-- R211, R190: which command can return which error; in particular ProtocolTimingViolation comes from INIT alone. -/
def Obligations.ErrorsComeFromTheirCommands : Prop :=
  ∀ (i : Instr) (s t : State) (r : Response), s.Consistent → exec i s = .next t →
    t.responses = s.responses ++ [r] → r.stat ≠ .ok → r.stat ∈ mayRaise i

/-- R31, R211: the fields of STATUS, in every state: READY in bit 0, the code of LAST_ERR in bits [15:8], 0 elsewhere,
and the eight codes are 0 to 7. -/
def Obligations.StatusRegisterFields : Prop :=
  (∀ s : State,
    ((s.readCsr .status).toNat % 2 = 1 ↔ s.phase = .ready)
      ∧ (s.readCsr .status).toNat / 2 % 128 = 0
      ∧ (s.readCsr .status).toNat / 256 % 256 = s.csr.lastErr.code.toNat
      ∧ (s.readCsr .status).toNat / 65536 = 0)
  ∧ [StatusCode.ok, .configurationError, .rangeError, .transportError, .protocolTimingViolation, .illegalCommand,
      .notInitialized, .configLocked].map (fun e => e.code.toNat) = [0, 1, 2, 3, 4, 5, 6, 7]

/-- R73: the phase is the only access control: pixel, encode and render commands are refused in UNCONFIGURED with
NotInitialized, configuration writes in READY with ConfigLocked. -/
def Obligations.PhaseControlsAccess : Prop :=
  ∀ s : State,
    (s.phase = .unconfigured →
      (∀ i d, exec (.setPixel i d) s = .next (afterError s .notInitialized))
      ∧ (∀ i, exec (.getPixel i) s = .next (afterError s .notInitialized))
      ∧ (∀ d, exec (.fill d) s = .next (afterError s .notInitialized))
      ∧ exec .clear s = .next (afterError s .notInitialized)
      ∧ (∀ d, exec (.encode d) s = .next (afterError s .notInitialized))
      ∧ exec .render s = .next (afterError s .notInitialized))
    ∧ (s.phase = .ready →
      (∀ n d, n.toNat ≤ 9 → exec (.csrWrite n d) s = .next (afterError s .configLocked))
      ∧ exec .init s = .next (afterError s .configLocked))

/-! ## Registers -/

/-- R180: CSR_WRITE, every case. On success the register reads back as `d`, and every other register as before. -/
def Obligations.CsrWriteCommand : Prop :=
  ∀ (n : Index) (d : Word) (s : State),
    (¬ n.toNat ≤ 9 → exec (.csrWrite n d) s = .next (afterError s .illegalCommand))
    ∧ (n.toNat ≤ 9 → s.phase = .ready → exec (.csrWrite n d) s = .next (afterError s .configLocked))
    ∧ (n.toNat ≤ 9 → s.phase = .unconfigured → d &&& ~~~ maskAt n.toNat ≠ 0 →
        exec (.csrWrite n d) s = .next (afterError s .configurationError))
    ∧ (n.toNat ≤ 9 → s.phase = .unconfigured → d &&& ~~~ maskAt n.toNat = 0 →
        ∃ t, exec (.csrWrite n d) s = .next t
          ∧ t = { s with csr := t.csr, responses := s.responses ++ [⟨.ok, .nothing⟩] }
          ∧ (∃ x, csrAt n = some x ∧ t.readCsr x = d)
          ∧ ∀ m x, m ≠ n → csrAt m = some x → t.readCsr x = s.readCsr x)

/-- R182, R183: CSR_READ, every number, in both phases; nothing but the response changes. -/
def Obligations.CsrReadCommand : Prop :=
  ∀ s : State, s.Consistent →
    readGives s 0x00 (BitVec.ofNat 32 s.csr.ledCount.toNat) ∧ readGives s 0x01 (BitVec.ofNat 32 s.csr.channelOrder.toNat)
    ∧ readGives s 0x02 (BitVec.ofNat 32 s.csr.symbolBits.toNat) ∧ readGives s 0x03 s.csr.pattern0 ∧ readGives s 0x04 s.csr.pattern1
    ∧ readGives s 0x05 s.csr.clockRate ∧ readGives s 0x06 (BitVec.ofNat 32 s.csr.resetLead.toNat)
    ∧ readGives s 0x07 (BitVec.ofNat 32 s.csr.resetTrail.toNat) ∧ readGives s 0x08 s.csr.spiBus ∧ readGives s 0x09 s.csr.spiDevice
    ∧ readGives s 0x10 (BitVec.ofNat 32 (s.csr.lastErr.code.toNat * 256 + if s.phase = .ready then 1 else 0))
    ∧ readGives s 0x11 (if s.phase = .ready then BitVec.ofNat 32 s.csr.frameLength else 0)
    ∧ readGives s 0x12 s.csr.renderCount
    ∧ ∀ n : Index, (0x0A ≤ n.toNat ∧ n.toNat ≤ 0x0F) ∨ 0x13 ≤ n.toNat →
        exec (.csrRead n) s = .next (afterError s .illegalCommand)

/-- R181: FIELDMASK is the table's, and a bit outside it reads 0 in every state. -/
def Obligations.BitsOutsideFieldsReadZero : Prop :=
  (∀ r : ConfigReg, fieldMask r = maskAt r.number.toNat)
    ∧ ∀ (s : State) (r : ConfigReg), s.csr.read r &&& ~~~ maskAt r.number.toNat = 0

/-! ## INIT -/

/-- R184, R185, R189: INIT, every case. The first check that fails decides the error, and INIT then writes nothing but
LAST_ERR; if none fails, INIT configures the block. -/
def Obligations.InitCommand : Prop :=
  ∀ s : State,
    (∀ k, k ≤ 12 → (∀ j, j < k → initCheck s j) → ¬ initCheck s k →
      exec .init s = .next (afterError s (initCheckError k)))
    ∧ ((∀ k, k ≤ 12 → initCheck s k) →
      let lead := effective s.params s.csr.clockRate.toNat s.csr.resetLead.toNat
      let trail := effective s.params s.csr.clockRate.toNat s.csr.resetTrail.toNat
      ∃ t, exec .init s = .next t
        ∧ t = { s with phase := .ready, csr := t.csr, lut := t.lut, pix := t.pix,
                       responses := s.responses ++ [⟨.ok, .nothing⟩] }
        ∧ t.csr = { s.csr with resetLead := t.csr.resetLead, resetTrail := t.csr.resetTrail, frameLen := t.csr.frameLen }
        ∧ t.csr.resetLead.toNat = lead ∧ t.csr.resetTrail.toNat = trail
        ∧ t.csr.frameLen.toNat
            = lead + s.csr.ledCount.toNat * (if s.csr.channelOrder = 2 then 4 else 3) * s.csr.symbolBits.toNat + trail
        ∧ t.lut.length = 256
        ∧ (∀ v : Byte, lutEntry t.lut v
            = encodeByte s.csr.symbolBits.toNat s.csr.pattern0.toNat s.csr.pattern1.toNat v)
        ∧ t.pix.length = s.csr.ledCount.toNat
        ∧ ∀ p ∈ t.pix, p.length = (if s.csr.channelOrder = 2 then 4 else 3) ∧ ∀ b ∈ p, b = 0)

/-- R186: `shape` is the number of high bits of a single pulse, and is undefined for every other pattern. -/
def Obligations.ShapeIsTheSinglePulse : Prop :=
  ∀ S p h : Nat, shape S p = some h ↔ 1 ≤ h ∧ h ≤ S - 1 ∧ p = (2 ^ h - 1) <<< (S - h)

/-- R28, R188: AUTO is the least byte count whose duration reaches T_RESET_MIN_NS. -/
def Obligations.AutoCountIsTheLeastLongEnough : Prop :=
  ∀ (p : Params) (f k : Nat), p.tResetMinNs * f ≤ k * (8 * 10 ^ 9) ↔ neededBytes p f ≤ k

/-- R191: with R7's default timing parameters, the reset configuration with any legal LED_COUNT passes INIT, with 224
bytes in each reset region. -/
def Obligations.ResetConfigurationIsValid : Prop :=
  ∀ (s : State) (m : Nat) (n : BitVec 24), 1 ≤ n.toNat → n.toNat ≤ m →
    s.params = { Params.default with maxLedCount := m } → s.phase = .unconfigured →
    s.csr = { CsrFile.reset with ledCount := n, lastErr := s.csr.lastErr } →
    shape 8 0xC0 = some 2 ∧ shape 8 0xF8 = some 5
      ∧ ∃ t, exec .init s = .next t ∧ t.phase = .ready ∧ t.csr.resetLead = 224 ∧ t.csr.resetTrail = 224
        ∧ t.csr.frameLen.toNat = 448 + 24 * n.toNat

/-- R43: FRAME_LEN cannot overflow. -/
def Obligations.FrameLengthFitsItsRegister : Prop :=
  ∀ c : CsrFile, c.symbolWidth ≤ 32 → c.frameLength ≤ 2181037950 ∧ c.frameLength < 2 ^ 32

/-! ## The bit encoder -/

/-- R114: ENCODE, every case. -/
def Obligations.EncodeCommand : Prop :=
  ∀ (d : Word) (s : State), s.Consistent →
    (s.phase = .unconfigured → exec (.encode d) s = .next (afterError s .notInitialized))
    ∧ (s.phase = .ready → 0xFF < d.toNat → exec (.encode d) s = .next (afterError s .rangeError))
    ∧ (s.phase = .ready → d.toNat ≤ 0xFF →
        exec (.encode d) s = .next { s with responses := s.responses ++
            [⟨.ok, .bytes (encodeByte s.csr.symbolWidth s.csr.patternZero s.csr.patternOne
              (BitVec.ofNat 8 d.toNat))⟩] }
        ∧ lutEntry s.lut (BitVec.ofNat 8 d.toNat)
            = encodeByte s.csr.symbolWidth s.csr.patternZero s.csr.patternOne (BitVec.ofNat 8 d.toNat))

/-- R111 and R115, with R62 to R64 and R110: a value encodes to exactly S bytes, and bit j of symbol i, counted in
transmission order, is bit S-1-j of the pattern for LED bit 7-i. -/
def Obligations.EncodedBitsAreTheSymbols : Prop :=
  ∀ (S p0 p1 : Nat) (v : Byte), (encodeByte S p0 p1 v).length = S
    ∧ ∀ i j, i < 8 → j < S →
      (wireBits (encodeByte S p0 p1 v))[S * i + j]?
        = some ((if v.getLsbD (7 - i) then p1 else p0).testBit (S - 1 - j))

/-- R116: distinct patterns encode distinct values distinctly; so in READY the 256 LUT entries are pairwise distinct. -/
def Obligations.EncodingIsInjective : Prop :=
  (∀ (S p0 p1 : Nat) (u v : Byte), p0 < 2 ^ S → p1 < 2 ^ S → p0 ≠ p1 →
    encodeByte S p0 p1 u = encodeByte S p0 p1 v → u = v)
  ∧ ∀ (s : State) (u v : Byte), s.Consistent → s.phase = .ready → lutEntry s.lut u = lutEntry s.lut v → u = v

/-- R119: `decode_channel` inverts `encode_byte`, and answers none for any other byte sequence. -/
def Obligations.DecodeChannelInvertsEncodeByte : Prop :=
  ∀ s : State, s.Consistent → s.phase = .ready →
    (∀ v : Byte, decodeChannel s.lut (s.csr.encodeByte v) = some v)
    ∧ ∀ bs : List Byte, (∀ v : Byte, s.csr.encodeByte v ≠ bs) → decodeChannel s.lut bs = none

/-! ## Frames and the wire -/

/-- R130, R135: the frame, byte by byte, and its length, which is FRAME_LEN. -/
def Obligations.FrameLayout : Prop :=
  ∀ s : State, s.Consistent → s.phase = .ready →
    let S := s.csr.symbolWidth
    let C := s.csr.channels
    let active := s.csr.numLeds * C * S
    ∃ F, buildFrame s.csr s.lut s.pix = .ok F
      ∧ F.length = s.csr.leadBytes + active + s.csr.trailBytes ∧ F.length = s.csr.frameLen.toNat
      ∧ ∀ p, p < F.length →
        (p < s.csr.leadBytes → F[p]? = some 0)
        ∧ (s.csr.leadBytes ≤ p → p < s.csr.leadBytes + active →
            let q := p - s.csr.leadBytes
            F[p]? = (lutEntry s.lut (s.slot (q / (C * S)) (q % (C * S) / S)))[q % S]?)
        ∧ (s.csr.leadBytes + active ≤ p → F[p]? = some 0)

/-- R142: decoding the frame of any pixel buffer gives the buffer back. -/
def Obligations.DecodeFrameInvertsBuildFrame : Prop :=
  ∀ (s : State) (pixels : List (List Byte)), s.Consistent → s.phase = .ready →
    pixels.length = s.csr.numLeds → (∀ p ∈ pixels, p.length = s.csr.channels) →
    ∃ F, buildFrame s.csr s.lut pixels = .ok F ∧ decodeFrame s.csr s.lut F = some pixels

/-- R134: a buffer of the wrong shape is a ConfigurationError, which no command can cause. -/
def Obligations.WrongShapeIsNoFrame : Prop :=
  (∀ (c : CsrFile) (lut pix : List (List Byte)), pix.length ≠ c.numLeds ∨ (∃ p ∈ pix, p.length ≠ c.channels) →
    buildFrame c lut pix = .error .configurationError)
  ∧ ∀ s : State, s.Consistent → s.phase = .ready → ∀ e, buildFrame s.csr s.lut s.pix ≠ .error e

/-- R136: both reset regions are all zero, on the wire too, and not empty when T_RESET_MIN_NS > 0 (f is at least 1 in
READY); each lasts at least T_RESET_MIN_NS (R138, R140). What it says of the wire and of time holds on the transport's
duties of D32 and D35, which the block cannot check (log entry 5). -/
def Obligations.ResetRegionsAreLowAndLongEnough : Prop :=
  ∀ (s : State) (F : List Byte), s.Consistent → s.phase = .ready → buildFrame s.csr s.lut s.pix = .ok F →
    (∀ p, p < s.csr.leadBytes ∨ (F.length - s.csr.trailBytes ≤ p ∧ p < F.length) → F[p]? = some 0)
    ∧ (∀ j, j < 8 * s.csr.leadBytes → (wireBits F)[j]? = some false)
    ∧ (∀ j, 8 * (F.length - s.csr.trailBytes) ≤ j → j < 8 * F.length → (wireBits F)[j]? = some false)
    ∧ s.params.tResetMinNs * s.csr.clockHz ≤ 8 * s.csr.leadBytes * 10 ^ 9
    ∧ s.params.tResetMinNs * s.csr.clockHz ≤ 8 * s.csr.trailBytes * 10 ^ 9
    ∧ (0 < s.params.tResetMinNs → 1 ≤ s.csr.leadBytes ∧ 1 ≤ s.csr.trailBytes)

/-- R66: w[j] = F[j div 8][7 - (j mod 8)]. -/
def Obligations.WireBitOrder : Prop :=
  ∀ F : List Byte, (wireBits F).length = 8 * F.length
    ∧ ∀ j, j < 8 * F.length → (wireBits F)[j]? = (F[j / 8]?).map (fun b => b.getLsbD (7 - j % 8))

/-- R139, R187: in READY, an LED bit is h high bits then S-h low bits on the wire, and the four durations lie in their
windows. That the bits have these durations on the wire holds on the transport's duties of D32 and D35 (log entry 5). -/
def Obligations.LedBitsMeetTheirWindows : Prop :=
  ∀ s : State, s.Consistent → s.phase = .ready →
    ∃ h0 h1, symbol s.csr.symbolWidth s.csr.patternZero s.csr.patternOne false
        = List.replicate h0 true ++ List.replicate (s.csr.symbolWidth - h0) false
      ∧ symbol s.csr.symbolWidth s.csr.patternZero s.csr.patternOne true
        = List.replicate h1 true ++ List.replicate (s.csr.symbolWidth - h1) false
      ∧ (1 ≤ h0 ∧ h0 < s.csr.symbolWidth) ∧ (1 ≤ h1 ∧ h1 < s.csr.symbolWidth)
      ∧ windows s.params s.csr.clockHz s.csr.symbolWidth h0 h1

/-- R118: in the active region each LED bit is one pulse that starts high and ends low, so that consecutive symbols
never merge; and no low run is longer than one symbol's low part, so it lasts at most max(T0L_MAX_NS, T1L_MAX_NS).
That the wire shows these bits with no gap holds on the transport's duties of D32 and D35 (log entry 5). -/
def Obligations.ActiveRegionIsATrainOfPulses : Prop :=
  ∀ s : State, s.Consistent → s.phase = .ready →
    let S := s.csr.symbolWidth
    let w := wireBits (activeRegion s.lut s.pix)
    w.length = S * (8 * (s.csr.numLeds * s.csr.channels))
    ∧ (∀ q, q < 8 * (s.csr.numLeds * s.csr.channels) →
        w[S * q]? = some true ∧ w[S * q + (S - 1)]? = some false
          ∧ ∀ j, j + 1 < S → w[S * q + j + 1]? = some true → w[S * q + j]? = some true)
    ∧ ∀ (before after : List Bool) (n : Nat), w = before ++ List.replicate n false ++ after →
        (∃ h0 h1, hasShape S s.csr.patternZero h0 ∧ hasShape S s.csr.patternOne h1 ∧ n ≤ max (S - h0) (S - h1))
          ∧ n * 10 ^ 9 ≤ max s.params.t0lMaxNs s.params.t1lMaxNs * s.csr.clockHz

/-! ## The pixel buffer -/

/-- R150, R151: SET_PIXEL, every case. -/
def Obligations.SetPixelCommand : Prop :=
  ∀ (i : Index) (d : Word) (s : State), s.Consistent →
    (s.phase = .unconfigured → exec (.setPixel i d) s = .next (afterError s .notInitialized))
    ∧ (s.phase = .ready → s.csr.numLeds ≤ i.toNat → exec (.setPixel i d) s = .next (afterError s .rangeError))
    ∧ (s.phase = .ready → i.toNat < s.csr.numLeds →
        ∃ t, exec (.setPixel i d) s = .next t
          ∧ t = { s with pix := t.pix, responses := s.responses ++ [⟨.ok, .nothing⟩] }
          ∧ (∀ k, k < s.csr.channels → t.slot i.toNat k = (d >>> (24 - 8 * k)).setWidth 8)
          ∧ (∀ j k, j ≠ i.toNat → t.slot j k = s.slot j k)
          ∧ pixelsFit s.csr.numLeds s.csr.channels t.pix = true)

/-- R152: GET_PIXEL, every case: byte k of the word is slot k, and the last byte is 0 when C = 3. -/
def Obligations.GetPixelCommand : Prop :=
  ∀ (i : Index) (s : State),
    (s.phase = .unconfigured → exec (.getPixel i) s = .next (afterError s .notInitialized))
    ∧ (s.phase = .ready → s.csr.numLeds ≤ i.toNat → exec (.getPixel i) s = .next (afterError s .rangeError))
    ∧ (s.phase = .ready → i.toNat < s.csr.numLeds →
        ∃ w : Word, exec (.getPixel i) s = .next { s with responses := s.responses ++ [⟨.ok, .word w⟩] }
          ∧ (∀ k, k < s.csr.channels → (w >>> (24 - 8 * k)).setWidth 8 = s.slot i.toNat k)
          ∧ (s.csr.channels = 3 → w.setWidth 8 = (0 : Byte)))

/-- R65, R85: a pixel that was set reads back as written, with DATA[7:0] as 0 when C = 3; every other pixel reads as
before. -/
def Obligations.GetPixelAfterSetPixel : Prop :=
  ∀ (i : Index) (d : Word) (s t : State), s.Consistent → s.phase = .ready → i.toNat < s.csr.numLeds →
    exec (.setPixel i d) s = .next t →
    exec (.getPixel i) t = .next { t with responses := t.responses ++
        [⟨.ok, .word (if s.csr.channels = 4 then d else d &&& 0xFFFFFF00)⟩] }
    ∧ ∀ j : Index, j ≠ i → j.toNat < s.csr.numLeds →
        ∃ w, exec (.getPixel j) s = .next { s with responses := s.responses ++ [⟨.ok, .word w⟩] }
          ∧ exec (.getPixel j) t = .next { t with responses := t.responses ++ [⟨.ok, .word w⟩] }

/-- R154: FILL, every case. -/
def Obligations.FillCommand : Prop :=
  ∀ (d : Word) (s : State),
    (s.phase = .unconfigured → exec (.fill d) s = .next (afterError s .notInitialized))
    ∧ (s.phase = .ready →
        ∃ t, exec (.fill d) s = .next t
          ∧ t = { s with pix := t.pix, responses := s.responses ++ [⟨.ok, .nothing⟩] }
          ∧ (∀ i k, i < s.csr.numLeds → k < s.csr.channels → t.slot i k = (d >>> (24 - 8 * k)).setWidth 8)
          ∧ pixelsFit s.csr.numLeds s.csr.channels t.pix = true)

/-- R156, R157: CLEAR, every case; it leaves the same state as FILL 0x00000000. -/
def Obligations.ClearCommand : Prop :=
  ∀ s : State,
    (s.phase = .unconfigured → exec .clear s = .next (afterError s .notInitialized))
    ∧ (s.phase = .ready →
        ∃ t, exec .clear s = .next t
          ∧ t = { s with pix := t.pix, responses := s.responses ++ [⟨.ok, .nothing⟩] }
          ∧ (∀ i k, t.slot i k = 0) ∧ pixelsFit s.csr.numLeds s.csr.channels t.pix = true)
    ∧ exec (.fill 0) s = exec .clear s

/-! ## RENDER -/

/-- R158: RENDER, where the transport answers. -/
def Obligations.RenderCommand : Prop :=
  ∀ s : State, s.Consistent →
    (s.phase = .unconfigured → exec .render s = .next (afterError s .notInitialized))
    ∧ (s.phase = .ready → ∃ F, buildFrame s.csr s.lut s.pix = .ok F
        ∧ (s.nextOutcome = .answered .ok → exec .render s = .next { s with
            csr := { s.csr with renderCount := BitVec.ofNat 32 ((s.csr.renderCount.toNat + 1) % 2 ^ 32) }
            responses := s.responses ++ [⟨.ok, .nothing⟩]
            transport := s.transport.tail
            draws := s.draws + 1
            transmissions := s.transmissions ++ [⟨s.pix, F, s.csr.clockRate, .answered .ok⟩] })
        ∧ (s.nextOutcome = .answered .fail → exec .render s = .next { s with
            csr := { s.csr with
              renderCount := BitVec.ofNat 32 ((s.csr.renderCount.toNat + 1) % 2 ^ 32)
              lastErr := .transportError }
            responses := s.responses ++ [⟨.transportError, .nothing⟩]
            transport := s.transport.tail
            draws := s.draws + 1
            transmissions := s.transmissions ++ [⟨s.pix, F, s.csr.clockRate, .answered .fail⟩] }))

/-- R162: a RENDER whose transport never answers has no completing step. -/
def Obligations.RenderIsStuckWithoutAnswer : Prop :=
  ∀ s : State, s.Consistent → s.phase = .ready → s.nextOutcome = .never →
    exec .render s = .fault .transportNeverAnswers

/-- R243: reset while a RENDER waits: the block is at its reset values at once, there is no response, the wire shows
some leading part of the frame, and what the LEDs show is unknown. -/
def Obligations.ResetDuringRender : Prop :=
  ∀ (s : State) (bits : Nat), s.Consistent → s.phase = .ready → s.nextOutcome = .reset bits →
    ∃ t F, exec .render s = .next t ∧ t.BlockAtReset ∧ t.responses = s.responses ∧ t.host = s.host
      ∧ t.params = s.params ∧ t.ledsShow = none ∧ buildFrame s.csr s.lut s.pix = .ok F
      ∧ ∃ x, t.transmissions = s.transmissions ++ [x] ∧ x.frame = F
        ∧ ∃ sent, x.wire = some sent ∧ sent <+: wireBits F

/-- R71: two RENDERs with no pixel mutation between them hand byte-identical frames to the transport. -/
def Obligations.RenderIsIdempotent : Prop :=
  ∀ (s t u v : State) (between : List Instr) (a b : Transmission), (∀ i ∈ between, quiet i) →
    exec .render s = .next t → t.transmissions = s.transmissions ++ [a] → t.phase = .ready →
    runCommands between t = some u →
    exec .render u = .next v → v.transmissions = u.transmissions ++ [b] →
    a.frame = b.frame

/-- R159, R70: RENDER makes at most one `Transmit` call, with one frame built from the whole buffer, and no other
command makes any. -/
def Obligations.OnlyRenderTransmits : Prop :=
  ∀ (i : Instr) (s t : State), exec i s = .next t →
    (i ≠ .render → t.transmissions = s.transmissions ∧ t.transport = s.transport ∧ t.draws = s.draws)
    ∧ (i = .render → s.phase = .ready → s.Consistent →
        ∃ x, t.transmissions = s.transmissions ++ [x] ∧ buildFrame s.csr s.lut s.pix = .ok x.frame
          ∧ x.frame.length = s.csr.frameLen.toNat ∧ x.snapshot = s.pix ∧ x.clockRate = s.csr.clockRate
          ∧ x.outcome = s.nextOutcome)

/-- R70: CSR_READ, GET_PIXEL and ENCODE have no side effects: a successful one changes only the list of responses, and
doing it twice gives the same answer twice. -/
def Obligations.ReadsHaveNoSideEffects : Prop :=
  ∀ (i : Instr) (s t : State) (r : Response),
    ((∃ n, i = .csrRead n) ∨ (∃ j, i = .getPixel j) ∨ ∃ d, i = .encode d) →
    exec i s = .next t → t.responses = s.responses ++ [r] → r.stat = .ok →
    t = { s with responses := s.responses ++ [r] }
      ∧ exec i t = .next { s with responses := s.responses ++ [r, r] }

/-- R42, R161: what the LEDs show, where the spec says: the snapshot after a successful RENDER, unknown after a failed
one; a pixel mutation does not change it. -/
def Obligations.LedsChangeOnlyAtRender : Prop :=
  (∀ (s t : State), s.Consistent → s.phase = .ready → exec .render s = .next t →
    (s.nextOutcome = .answered .ok → t.ledsShow = some s.pix)
    ∧ (s.nextOutcome = .answered .fail → t.ledsShow = none))
  ∧ ∀ (i : Instr) (s t : State), i ≠ .render → exec i s = .next t → t.ledsShow = s.ledsShow

/-! ## The line over successive frames

The idle times and the time a failed call takes are any non-negative times (log entry 16). That the line is low when
idle, and that a frame's bits follow each other with no gap, are the transport's duties of D32 and D35 (log entry 5). -/

/-- R75, R140, R143: what one host event adds to the line. What was on it stays, so frames come in full and in order; a
RENDER that the transport answers with ok adds the idle time, LEAD low bytes, the active region and TRAIL low bytes, each
reset region lasting at least T_RESET_MIN_NS; a failed one adds a stretch that is not stated; one that reset cuts short
adds a leading part of the frame (R243); nothing else adds anything. Log entries 5 and 16. -/
def Obligations.RenderExtendsTheLine : Prop :=
  ∀ (idle unstated : Nat → Rat),
    (∀ (e : HostEvent) (s t : State), runEvent e s = .next t →
      ∃ more, t.line idle unstated = s.line idle unstated ++ more
        ∧ (¬ (∃ w, e = .command w ∧ decode w = .command .render) → more = []))
    ∧ ∀ s t : State, s.Consistent → s.phase = .ready → exec .render s = .next t →
      let f := s.csr.clockHz
      let before := s.line idle unstated ++ [⟨some false, idle s.transmissions.length⟩]
      let lead := bitStretches f (List.replicate (8 * s.csr.leadBytes) false)
      let active := bitStretches f (wireBits (activeRegion s.lut s.pix))
      let trail := bitStretches f (List.replicate (8 * s.csr.trailBytes) false)
      (s.params.tResetMinNs : Rat) / 10 ^ 9 ≤ lineSeconds lead
        ∧ (s.params.tResetMinNs : Rat) / 10 ^ 9 ≤ lineSeconds trail
        ∧ (s.nextOutcome = .answered .ok → t.line idle unstated = before ++ lead ++ active ++ trail)
        ∧ (s.nextOutcome = .answered .fail →
            t.line idle unstated = before ++ [⟨none, unstated s.transmissions.length⟩])
        ∧ ∀ bits, s.nextOutcome = .reset bits →
            t.line idle unstated = before ++ (lead ++ active ++ trail).take bits

/-- R143: two frames that both reach the wire, with any host events between their RENDERs (resets, INITs and further
RENDERs among them). The first frame is on the line in full before the second; between the two active regions lie at least
the first frame's TRAIL, the idle time and the second frame's LEAD, and, if no other call lies between, just these, all
low; and the gap lasts at least T_RESET_MIN_NS, whatever the idle times. Log entries 5 and 16. -/
def Obligations.FramesKeepTheirDistance : Prop :=
  ∀ (idle unstated : Nat → Rat), (∀ n, 0 ≤ idle n) → (∀ n, 0 ≤ unstated n) →
  ∀ (s t u v : State) (between : List HostEvent), s.Consistent → s.phase = .ready → s.nextOutcome = .answered .ok →
    exec .render s = .next t → runEvents between t = some u →
    u.phase = .ready → u.nextOutcome = .answered .ok → exec .render u = .next v →
    let low := fun f bytes => bitStretches f (List.replicate (8 * bytes) false)
    let active := fun x : State => bitStretches x.csr.clockHz (wireBits (activeRegion x.lut x.pix))
    ∃ calls,
      let gap := low s.csr.clockHz s.csr.trailBytes ++ calls ++ [⟨some false, idle u.transmissions.length⟩]
        ++ low u.csr.clockHz u.csr.leadBytes
      v.line idle unstated = s.line idle unstated ++ [⟨some false, idle s.transmissions.length⟩]
          ++ low s.csr.clockHz s.csr.leadBytes ++ active s ++ gap ++ active u ++ low u.csr.clockHz u.csr.trailBytes
        ∧ (s.params.tResetMinNs : Rat) / 10 ^ 9 ≤ lineSeconds gap
        ∧ (u.transmissions = t.transmissions → calls = [] ∧ (∀ x ∈ gap, x.level = some false)
          ∧ lineSeconds gap = 8 * (s.csr.trailBytes : Rat) / s.csr.clockHz + idle u.transmissions.length
              + 8 * (u.csr.leadBytes : Rat) / u.csr.clockHz)

/-! ## Assembler -/

/-- R91: the word of each core form whose operands fit their fields. -/
def Obligations.AssembledWords : Prop :=
  (∀ csr imm, csr < 2 ^ 24 → imm < 2 ^ 32 →
      (AsmForm.csrw csr imm).words = some [BitVec.ofNat 64 (0x01 * 2 ^ 56 + csr * 2 ^ 32 + imm)])
  ∧ (∀ csr, csr < 2 ^ 24 → (AsmForm.csrr csr).words = some [BitVec.ofNat 64 (0x02 * 2 ^ 56 + csr * 2 ^ 32)])
  ∧ AsmForm.init.words = some [0x0300000000000000]
  ∧ (∀ idx color, idx < 2 ^ 24 → color < 2 ^ 32 →
      (AsmForm.setpix idx color).words = some [BitVec.ofNat 64 (0x04 * 2 ^ 56 + idx * 2 ^ 32 + color)])
  ∧ (∀ idx, idx < 2 ^ 24 → (AsmForm.getpix idx).words = some [BitVec.ofNat 64 (0x05 * 2 ^ 56 + idx * 2 ^ 32)])
  ∧ (∀ color, color < 2 ^ 32 → (AsmForm.fill color).words = some [BitVec.ofNat 64 (0x06 * 2 ^ 56 + color)])
  ∧ AsmForm.clear.words = some [0x0700000000000000]
  ∧ (∀ imm, imm < 2 ^ 32 → (AsmForm.encode imm).words = some [BitVec.ofNat 64 (0x08 * 2 ^ 56 + imm)])
  ∧ AsmForm.render.words = some [0x0900000000000000]

/-- R92: the pseudo-instructions are their expansions; a slot operand above 255 is rejected. -/
def Obligations.PseudoInstructionsExpand : Prop :=
  (∀ n, n < 2 ^ 32 → (AsmForm.resetMargin n).expand
      = some [.csrWrite 0x06 (BitVec.ofNat 32 n), .csrWrite 0x07 (BitVec.ofNat 32 n)])
  ∧ (∀ n, n < 2 ^ 32 → (AsmForm.strip n).expand = some [.csrWrite 0x00 (BitVec.ofNat 32 n), .init])
  ∧ (∀ i s0 s1 s2, i < 2 ^ 24 → s0 ≤ 255 → s1 ≤ 255 → s2 ≤ 255 → (AsmForm.setpix3 i s0 s1 s2).expand
      = some [.setPixel (BitVec.ofNat 24 i) (BitVec.ofNat 32 (s0 * 2 ^ 24 + s1 * 2 ^ 16 + s2 * 2 ^ 8))])
  ∧ (∀ i s0 s1 s2 s3, i < 2 ^ 24 → s0 ≤ 255 → s1 ≤ 255 → s2 ≤ 255 → s3 ≤ 255 →
      (AsmForm.setpix4 i s0 s1 s2 s3).expand
      = some [.setPixel (BitVec.ofNat 24 i) (BitVec.ofNat 32 (s0 * 2 ^ 24 + s1 * 2 ^ 16 + s2 * 2 ^ 8 + s3))])
  ∧ (∀ s0 s1 s2, s0 ≤ 255 → s1 ≤ 255 → s2 ≤ 255 → (AsmForm.fill3 s0 s1 s2).expand
      = some [.fill (BitVec.ofNat 32 (s0 * 2 ^ 24 + s1 * 2 ^ 16 + s2 * 2 ^ 8))])
  ∧ (∀ i s0 s1 s2, 255 < s0 ∨ 255 < s1 ∨ 255 < s2 →
      (AsmForm.setpix3 i s0 s1 s2).expand = none ∧ (AsmForm.fill3 s0 s1 s2).expand = none)
  ∧ (∀ i s0 s1 s2 s3, 255 < s0 ∨ 255 < s1 ∨ 255 < s2 ∨ 255 < s3 → (AsmForm.setpix4 i s0 s1 s2 s3).expand = none)
end

