-- ==== Sys2Proof/Laws/Decode.lean ====
section
/-! SUPPORT. The fields of a packed command word (spec 30_encoding.md R80), the parts of a word, and which words an
encoder can write (R91). -/

namespace Sys2Proof

@[simp] theorem opcOf_packCmd (opc : BitVec 8) (idx : Index) (data : Word) : opcOf (packCmd opc idx data) = opc := by
  apply BitVec.eq_of_getLsbD_eq
  intro j hj
  simp only [opcOf, packCmd, BitVec.getLsbD_extractLsb', BitVec.getLsbD_append, hj, decide_true, Bool.true_and]
  rw [if_neg (by omega), if_neg (by omega)]
  congr 1; omega

@[simp] theorem idxOf_packCmd (opc : BitVec 8) (idx : Index) (data : Word) : idxOf (packCmd opc idx data) = idx := by
  apply BitVec.eq_of_getLsbD_eq
  intro j hj
  simp only [idxOf, packCmd, BitVec.getLsbD_extractLsb', BitVec.getLsbD_append, hj, decide_true, Bool.true_and]
  rw [if_neg (by omega), if_pos (by omega)]
  congr 1; omega

@[simp] theorem dataOf_packCmd (opc : BitVec 8) (idx : Index) (data : Word) :
    dataOf (packCmd opc idx data) = data := by
  apply BitVec.eq_of_getLsbD_eq
  intro j hj
  simp only [dataOf, packCmd, BitVec.getLsbD_extractLsb', BitVec.getLsbD_append, hj, decide_true, Bool.true_and]
  rw [if_pos (by omega)]
  congr 1; omega

/-- A word is its three fields (R80). -/
theorem packCmd_fields (w : CmdWord) : packCmd (opcOf w) (idxOf w) (dataOf w) = w := by
  apply BitVec.eq_of_getLsbD_eq
  intro j hj
  simp only [opcOf, idxOf, dataOf, packCmd, BitVec.getLsbD_extractLsb', BitVec.getLsbD_append]
  split
  · rename_i h; simp [h]
  · rename_i h
    split
    · rename_i h2; simp [h2]; congr 1; omega
    · rename_i h2
      have : j - 32 - 24 < 8 := by omega
      simp [this]; congr 1; omega

end Sys2Proof
end

