-- ==== Sys2Proof/Laws/State.lean ====
section
/-! SUPPORT. Each field of the state after each named update: one lemma per field per update, so that no later proof
unfolds a record update. -/

namespace Sys2Proof.Machine

variable (s : State)

@[simp] theorem State.answered_params (d : RData) : (s.answered d).params = s.params := rfl
@[simp] theorem State.answered_phase (d : RData) : (s.answered d).phase = s.phase := rfl
@[simp] theorem State.answered_csr (d : RData) : (s.answered d).csr = s.csr := rfl
@[simp] theorem State.answered_lut (d : RData) : (s.answered d).lut = s.lut := rfl
@[simp] theorem State.answered_pix (d : RData) : (s.answered d).pix = s.pix := rfl
@[simp] theorem State.answered_host (d : RData) : (s.answered d).host = s.host := rfl
@[simp] theorem State.answered_responses (d : RData) : (s.answered d).responses = s.responses ++ [⟨.ok, d⟩] := rfl
@[simp] theorem State.answered_transport (d : RData) : (s.answered d).transport = s.transport := rfl
@[simp] theorem State.answered_draws (d : RData) : (s.answered d).draws = s.draws := rfl
@[simp] theorem State.answered_transmissions (d : RData) : (s.answered d).transmissions = s.transmissions := rfl

@[simp] theorem State.failed_params (e : StatusCode) : (s.failed e).params = s.params := rfl
@[simp] theorem State.failed_phase (e : StatusCode) : (s.failed e).phase = s.phase := rfl
@[simp] theorem State.failed_csr (e : StatusCode) : (s.failed e).csr = { s.csr with lastErr := e } := rfl
@[simp] theorem State.failed_lut (e : StatusCode) : (s.failed e).lut = s.lut := rfl
@[simp] theorem State.failed_pix (e : StatusCode) : (s.failed e).pix = s.pix := rfl
@[simp] theorem State.failed_host (e : StatusCode) : (s.failed e).host = s.host := rfl
@[simp] theorem State.failed_responses (e : StatusCode) : (s.failed e).responses = s.responses ++ [⟨e, .nothing⟩] := rfl
@[simp] theorem State.failed_transport (e : StatusCode) : (s.failed e).transport = s.transport := rfl
@[simp] theorem State.failed_draws (e : StatusCode) : (s.failed e).draws = s.draws := rfl
@[simp] theorem State.failed_transmissions (e : StatusCode) : (s.failed e).transmissions = s.transmissions := rfl

@[simp] theorem State.writeCsr_params (r : ConfigReg) (d : Word) : (s.writeCsr r d).params = s.params := rfl
@[simp] theorem State.writeCsr_phase (r : ConfigReg) (d : Word) : (s.writeCsr r d).phase = s.phase := rfl
@[simp] theorem State.writeCsr_csr (r : ConfigReg) (d : Word) : (s.writeCsr r d).csr = s.csr.write r d := rfl
@[simp] theorem State.writeCsr_lut (r : ConfigReg) (d : Word) : (s.writeCsr r d).lut = s.lut := rfl
@[simp] theorem State.writeCsr_pix (r : ConfigReg) (d : Word) : (s.writeCsr r d).pix = s.pix := rfl
@[simp] theorem State.writeCsr_host (r : ConfigReg) (d : Word) : (s.writeCsr r d).host = s.host := rfl
@[simp] theorem State.writeCsr_responses (r : ConfigReg) (d : Word) : (s.writeCsr r d).responses = s.responses := rfl
@[simp] theorem State.writeCsr_transport (r : ConfigReg) (d : Word) : (s.writeCsr r d).transport = s.transport := rfl
@[simp] theorem State.writeCsr_draws (r : ConfigReg) (d : Word) : (s.writeCsr r d).draws = s.draws := rfl
@[simp] theorem State.writeCsr_transmissions (r : ConfigReg) (d : Word) : (s.writeCsr r d).transmissions = s.transmissions := rfl

@[simp] theorem State.writePixel_params (i : Nat) (d : Word) : (s.writePixel i d).params = s.params := rfl
@[simp] theorem State.writePixel_phase (i : Nat) (d : Word) : (s.writePixel i d).phase = s.phase := rfl
@[simp] theorem State.writePixel_csr (i : Nat) (d : Word) : (s.writePixel i d).csr = s.csr := rfl
@[simp] theorem State.writePixel_lut (i : Nat) (d : Word) : (s.writePixel i d).lut = s.lut := rfl
@[simp] theorem State.writePixel_pix (i : Nat) (d : Word) : (s.writePixel i d).pix = s.pix.set i (unpack s.csr.channels d) := rfl
@[simp] theorem State.writePixel_host (i : Nat) (d : Word) : (s.writePixel i d).host = s.host := rfl
@[simp] theorem State.writePixel_responses (i : Nat) (d : Word) : (s.writePixel i d).responses = s.responses := rfl
@[simp] theorem State.writePixel_transport (i : Nat) (d : Word) : (s.writePixel i d).transport = s.transport := rfl
@[simp] theorem State.writePixel_draws (i : Nat) (d : Word) : (s.writePixel i d).draws = s.draws := rfl
@[simp] theorem State.writePixel_transmissions (i : Nat) (d : Word) : (s.writePixel i d).transmissions = s.transmissions := rfl

@[simp] theorem State.fillPixels_params (d : Word) : (s.fillPixels d).params = s.params := rfl
@[simp] theorem State.fillPixels_phase (d : Word) : (s.fillPixels d).phase = s.phase := rfl
@[simp] theorem State.fillPixels_csr (d : Word) : (s.fillPixels d).csr = s.csr := rfl
@[simp] theorem State.fillPixels_lut (d : Word) : (s.fillPixels d).lut = s.lut := rfl
@[simp] theorem State.fillPixels_pix (d : Word) : (s.fillPixels d).pix = List.replicate s.csr.numLeds (unpack s.csr.channels d) := rfl
@[simp] theorem State.fillPixels_host (d : Word) : (s.fillPixels d).host = s.host := rfl
@[simp] theorem State.fillPixels_responses (d : Word) : (s.fillPixels d).responses = s.responses := rfl
@[simp] theorem State.fillPixels_transport (d : Word) : (s.fillPixels d).transport = s.transport := rfl
@[simp] theorem State.fillPixels_draws (d : Word) : (s.fillPixels d).draws = s.draws := rfl
@[simp] theorem State.fillPixels_transmissions (d : Word) : (s.fillPixels d).transmissions = s.transmissions := rfl

@[simp] theorem State.zeroPixels_params : (s.zeroPixels).params = s.params := rfl
@[simp] theorem State.zeroPixels_phase : (s.zeroPixels).phase = s.phase := rfl
@[simp] theorem State.zeroPixels_csr : (s.zeroPixels).csr = s.csr := rfl
@[simp] theorem State.zeroPixels_lut : (s.zeroPixels).lut = s.lut := rfl
@[simp] theorem State.zeroPixels_pix : (s.zeroPixels).pix = List.replicate s.csr.numLeds (List.replicate s.csr.channels 0) := rfl
@[simp] theorem State.zeroPixels_host : (s.zeroPixels).host = s.host := rfl
@[simp] theorem State.zeroPixels_responses : (s.zeroPixels).responses = s.responses := rfl
@[simp] theorem State.zeroPixels_transport : (s.zeroPixels).transport = s.transport := rfl
@[simp] theorem State.zeroPixels_draws : (s.zeroPixels).draws = s.draws := rfl
@[simp] theorem State.zeroPixels_transmissions : (s.zeroPixels).transmissions = s.transmissions := rfl

@[simp] theorem State.countRender_params : (s.countRender).params = s.params := rfl
@[simp] theorem State.countRender_phase : (s.countRender).phase = s.phase := rfl
@[simp] theorem State.countRender_csr : (s.countRender).csr = { s.csr with renderCount := s.csr.renderCount + 1 } := rfl
@[simp] theorem State.countRender_lut : (s.countRender).lut = s.lut := rfl
@[simp] theorem State.countRender_pix : (s.countRender).pix = s.pix := rfl
@[simp] theorem State.countRender_host : (s.countRender).host = s.host := rfl
@[simp] theorem State.countRender_responses : (s.countRender).responses = s.responses := rfl
@[simp] theorem State.countRender_transport : (s.countRender).transport = s.transport := rfl
@[simp] theorem State.countRender_draws : (s.countRender).draws = s.draws := rfl
@[simp] theorem State.countRender_transmissions : (s.countRender).transmissions = s.transmissions := rfl

@[simp] theorem State.transmit_params (frame : List Byte) : (s.transmit frame).params = s.params := rfl
@[simp] theorem State.transmit_phase (frame : List Byte) : (s.transmit frame).phase = s.phase := rfl
@[simp] theorem State.transmit_csr (frame : List Byte) : (s.transmit frame).csr = s.csr := rfl
@[simp] theorem State.transmit_lut (frame : List Byte) : (s.transmit frame).lut = s.lut := rfl
@[simp] theorem State.transmit_pix (frame : List Byte) : (s.transmit frame).pix = s.pix := rfl
@[simp] theorem State.transmit_host (frame : List Byte) : (s.transmit frame).host = s.host := rfl
@[simp] theorem State.transmit_responses (frame : List Byte) : (s.transmit frame).responses = s.responses := rfl
@[simp] theorem State.transmit_transport (frame : List Byte) : (s.transmit frame).transport = s.transport.tail := rfl
@[simp] theorem State.transmit_draws (frame : List Byte) : (s.transmit frame).draws = s.draws + 1 := rfl
@[simp] theorem State.transmit_transmissions (frame : List Byte) : (s.transmit frame).transmissions = s.transmissions ++ [⟨s.pix, frame, s.csr.clockRate, s.nextOutcome⟩] := rfl

@[simp] theorem State.resetBlock_params : (s.resetBlock).params = s.params := rfl
@[simp] theorem State.resetBlock_phase : (s.resetBlock).phase = .unconfigured := rfl
@[simp] theorem State.resetBlock_csr : (s.resetBlock).csr = CsrFile.reset := rfl
@[simp] theorem State.resetBlock_lut : (s.resetBlock).lut = [] := rfl
@[simp] theorem State.resetBlock_pix : (s.resetBlock).pix = [] := rfl
@[simp] theorem State.resetBlock_host : (s.resetBlock).host = s.host := rfl
@[simp] theorem State.resetBlock_responses : (s.resetBlock).responses = s.responses := rfl
@[simp] theorem State.resetBlock_transport : (s.resetBlock).transport = s.transport := rfl
@[simp] theorem State.resetBlock_draws : (s.resetBlock).draws = s.draws := rfl
@[simp] theorem State.resetBlock_transmissions : (s.resetBlock).transmissions = s.transmissions := rfl

@[simp] theorem State.configured_params : (s.configured).params = s.params := rfl
@[simp] theorem State.configured_phase : (s.configured).phase = .ready := rfl
@[simp] theorem State.configured_csr : (s.configured).csr = s.csr.configured s.params := rfl
@[simp] theorem State.configured_lut : (s.configured).lut = s.csr.buildLut := rfl
@[simp] theorem State.configured_pix : (s.configured).pix = List.replicate s.csr.numLeds (List.replicate s.csr.channels 0) := rfl
@[simp] theorem State.configured_host : (s.configured).host = s.host := rfl
@[simp] theorem State.configured_responses : (s.configured).responses = s.responses := rfl
@[simp] theorem State.configured_transport : (s.configured).transport = s.transport := rfl
@[simp] theorem State.configured_draws : (s.configured).draws = s.draws := rfl
@[simp] theorem State.configured_transmissions : (s.configured).transmissions = s.transmissions := rfl

@[simp] theorem State.deliver_params (w : CmdWord) : (s.deliver w).params = s.params := rfl
@[simp] theorem State.deliver_phase (w : CmdWord) : (s.deliver w).phase = s.phase := rfl
@[simp] theorem State.deliver_csr (w : CmdWord) : (s.deliver w).csr = s.csr := rfl
@[simp] theorem State.deliver_lut (w : CmdWord) : (s.deliver w).lut = s.lut := rfl
@[simp] theorem State.deliver_pix (w : CmdWord) : (s.deliver w).pix = s.pix := rfl
@[simp] theorem State.deliver_host (w : CmdWord) : (s.deliver w).host = .command w :: s.host := rfl
@[simp] theorem State.deliver_responses (w : CmdWord) : (s.deliver w).responses = s.responses := rfl
@[simp] theorem State.deliver_transport (w : CmdWord) : (s.deliver w).transport = s.transport := rfl
@[simp] theorem State.deliver_draws (w : CmdWord) : (s.deliver w).draws = s.draws := rfl
@[simp] theorem State.deliver_transmissions (w : CmdWord) : (s.deliver w).transmissions = s.transmissions := rfl

/-- How the next wait ends depends on the transport's side alone. -/
@[simp] theorem State.countRender_nextOutcome : s.countRender.nextOutcome = s.nextOutcome := rfl

end Sys2Proof.Machine
end

