-- ==== Sys2Proof/Laws/Ops.lean ====
section
/-! SUPPORT. What each shared operation does, said once: `respond` and `raise` answer one next state; the register
map; a register reads back what was written; the pixel buffer keeps its shape (this block's canonical form) under every
pixel operation; the ordered checks. -/

namespace Sys2Proof.Machine

variable {s t : State}

/-! ## respond, raise -/

theorem respond_next {d : RData} (h : respond d s = .next t) : t = s.answered d := by
  injection h with h; exact h.symm

theorem raise_next {e : StatusCode} (h : raise e s = .next t) : t = s.failed e := by
  injection h with h; exact h.symm

/-! ## Registers -/

theorem csrAt_number (r : ConfigReg) : csrAt r.number = some (.config r) := by
  cases r <;> rfl

/-- A mapped number is a configuration register's number, or one of the three read-only ones (R21). -/
theorem csrAt_some {n : Index} {x : Csr} (h : csrAt n = some x) :
    (∃ r, x = .config r ∧ n = r.number) ∨ (x = .status ∧ n = 0x10) ∨ (x = .frameLen ∧ n = 0x11)
      ∨ (x = .renderCount ∧ n = 0x12) := by
  have key : ∀ k : Nat, n.toNat = k → n = BitVec.ofNat 24 k := by
    intro k hk
    apply BitVec.eq_of_toNat_eq
    rw [BitVec.toNat_ofNat, ← hk, Nat.mod_eq_of_lt n.isLt]
  unfold csrAt at h
  split at h <;> first
    | (injection h with h; subst h; rename_i hk; simp [key _ hk, ConfigReg.number])
    | cases h

/-- The numbers 0x00 to 0x09 are the configuration registers' (R21). -/
theorem csrAt_config {n : Index} (h : n.toNat ≤ 9) : ∃ r, n = r.number ∧ csrAt n = some (.config r) := by
  obtain ⟨k, hk⟩ : ∃ k, k = n.toNat := ⟨_, rfl⟩
  have hn : n = BitVec.ofNat 24 k := by rw [hk]; simp
  subst hn
  have hk9 : k ≤ 9 := hk ▸ h
  clear hk h
  have hs : ∀ r : ConfigReg, BitVec.ofNat 24 k = r.number →
      ∃ r, BitVec.ofNat 24 k = ConfigReg.number r ∧ csrAt (BitVec.ofNat 24 k) = some (.config r) :=
    fun r hr => ⟨r, hr, by rw [hr]; exact csrAt_number r⟩
  interval_cases k
  · exact hs .ledCount rfl
  · exact hs .channelOrder rfl
  · exact hs .symbolBits rfl
  · exact hs .pattern0 rfl
  · exact hs .pattern1 rfl
  · exact hs .clockRate rfl
  · exact hs .resetLead rfl
  · exact hs .resetTrail rfl
  · exact hs .spiBus rfl
  · exact hs .spiDevice rfl

/-- A number above 0x09 is no configuration register's (R21, R34). -/
theorem csrAt_not_config {n : Index} (h : 9 < n.toNat) (r : ConfigReg) : csrAt n ≠ some (.config r) := by
  intro hr
  rcases csrAt_some hr with ⟨r', -, rfl⟩ | ⟨h1, -⟩ | ⟨h1, -⟩ | ⟨h1, -⟩
  · cases r' <;> exact absurd h (by decide)
  all_goals cases h1

/-- Two configuration registers share no number. -/
theorem number_injective {r r' : ConfigReg} (h : r.number = r'.number) : r = r' := by
  have h1 := csrAt_number r
  rw [h, csrAt_number] at h1
  injection h1 with h1
  injection h1 with h1
  exact h1.symm

theorem read_write_other (c : CsrFile) {r r' : ConfigReg} (d : Word) (h : r' ≠ r) :
    (c.write r d).read r' = c.read r' := by
  cases r <;> cases r' <;> first | rfl | exact absurd rfl h

@[simp] theorem write_lastErr (c : CsrFile) (r : ConfigReg) (d : Word) : (c.write r d).lastErr = c.lastErr := by
  cases r <;> rfl

@[simp] theorem write_frameLen (c : CsrFile) (r : ConfigReg) (d : Word) : (c.write r d).frameLen = c.frameLen := by
  cases r <;> rfl

@[simp] theorem write_renderCount (c : CsrFile) (r : ConfigReg) (d : Word) :
    (c.write r d).renderCount = c.renderCount := by
  cases r <;> rfl

/-! ## Reset -/

/-- R240: the block is at its reset values after a reset, from any state. -/
theorem resetBlock_atReset (s : State) : s.resetBlock.BlockAtReset :=
  ⟨rfl, rfl, rfl, rfl, rfl, rfl, rfl, rfl, rfl, rfl, rfl,
    show statusWord .unconfigured .ok = 0 by decide, rfl, rfl, rfl, rfl⟩

/-! ## Pixels -/

theorem pixelsFit_iff {n c : Nat} {pix : List (List Byte)} :
    pixelsFit n c pix = true ↔ pix.length = n ∧ ∀ p ∈ pix, p.length = c := by
  simp [pixelsFit]

@[simp] theorem unpack_length (c : Nat) (d : Word) : (unpack c d).length = c := by simp [unpack]

theorem writePixel_keeps_fit (i : Nat) (d : Word) (h : pixelsFit s.csr.numLeds s.csr.channels s.pix = true) :
    pixelsFit s.csr.numLeds s.csr.channels (s.writePixel i d).pix = true := by
  rw [pixelsFit_iff] at h ⊢
  refine ⟨by simpa using h.1, fun p hp => ?_⟩
  rcases List.mem_or_eq_of_mem_set hp with hp | rfl
  · exact h.2 p hp
  · exact unpack_length _ _

theorem fillPixels_fit (s : State) (d : Word) :
    pixelsFit s.csr.numLeds s.csr.channels (s.fillPixels d).pix = true := by
  rw [pixelsFit_iff]
  exact ⟨by simp, fun p hp => by rw [List.eq_of_mem_replicate hp, unpack_length]⟩

theorem zeroPixels_fit (s : State) : pixelsFit s.csr.numLeds s.csr.channels s.zeroPixels.pix = true := by
  rw [pixelsFit_iff]
  exact ⟨by simp, fun p hp => by rw [List.eq_of_mem_replicate hp, List.length_replicate]⟩

theorem buildFrame_fit {c : CsrFile} {lut pix : List (List Byte)} (h : pixelsFit c.numLeds c.channels pix = true) :
    buildFrame c lut pix = .ok (zeros c.leadBytes ++ activeRegion lut pix ++ zeros c.trailBytes) := by
  simp [buildFrame, h]

/-! ## Channels -/

theorem channels_cases (c : CsrFile) : c.channels = 3 ∨ c.channels = 4 := by
  unfold CsrFile.channels; split <;> simp

/-! ## Ordered checks -/

theorem firstFailure_none_iff {l : List (Bool × StatusCode)} :
    firstFailure l = none ↔ ∀ x ∈ l, x.1 = true := by
  induction l with
  | nil => simp [firstFailure]
  | cons x rest ih =>
    obtain ⟨b, e⟩ := x
    cases b <;> simp [firstFailure, ih]

/-- The first failing check is the first entry of the list that is false; every entry before it is true. -/
theorem firstFailure_some {l : List (Bool × StatusCode)} {e : StatusCode} (h : firstFailure l = some e) :
    ∃ before after, l = before ++ (false, e) :: after ∧ ∀ x ∈ before, x.1 = true := by
  induction l with
  | nil => cases h
  | cons x rest ih =>
    obtain ⟨b, e'⟩ := x
    cases b with
    | false =>
      injection h with h
      exact ⟨[], rest, by rw [h]; rfl, by simp⟩
    | true =>
      obtain ⟨before, after, rfl, hb⟩ := ih h
      exact ⟨(true, e') :: before, after, rfl, by simpa using hb⟩

end Sys2Proof.Machine
end

