-- ==== Sys2Proof/Laws/Exec.lean ====
section
/-! SUPPORT. What each command can do, said once: if it answers a next state, that state is one of those listed. The
provers cite these instead of unfolding the meanings. -/

namespace Sys2Proof.Machine

variable {s t : State}

theorem execCsrWrite_next {n : Index} {d : Word} (h : execCsrWrite n d s = .next t) :
    t = s.failed .illegalCommand
      ∨ ∃ r, n = r.number ∧ ((s.phase = .ready ∧ t = s.failed .configLocked)
          ∨ (s.phase ≠ .ready ∧ outsideField r d ≠ 0 ∧ t = s.failed .configurationError)
          ∨ (s.phase ≠ .ready ∧ outsideField r d = 0 ∧ t = (s.writeCsr r d).answered .nothing)) := by
  unfold execCsrWrite at h
  split at h
  · exact .inl (raise_next h)
  · exact .inl (raise_next h)
  · exact .inl (raise_next h)
  · exact .inl (raise_next h)
  · rename_i r hr
    refine .inr ⟨r, ?_, ?_⟩
    · rcases csrAt_some hr with ⟨r', h1, h2⟩ | ⟨h1, -⟩ | ⟨h1, -⟩ | ⟨h1, -⟩ <;> cases h1
      exact h2
    · split at h
      · exact .inl ⟨‹_›, raise_next h⟩
      · split at h
        · exact .inr (.inl ⟨‹_›, ‹_›, raise_next h⟩)
        · exact .inr (.inr ⟨‹_›, not_not.mp ‹_›, respond_next h⟩)

theorem execCsrRead_next {n : Index} (h : execCsrRead n s = .next t) :
    (csrAt n = none ∧ t = s.failed .illegalCommand)
      ∨ ∃ x, csrAt n = some x ∧ t = s.answered (.word (s.readCsr x)) := by
  unfold execCsrRead at h
  split at h
  · exact .inl ⟨‹_›, raise_next h⟩
  · exact .inr ⟨_, ‹_›, respond_next h⟩

theorem execInit_next (h : execInit s = .next t) :
    (∃ e, initFailure s = some e ∧ t = s.failed e)
      ∨ (initFailure s = none ∧ t = s.configured.answered .nothing) := by
  unfold execInit at h
  split at h
  · exact .inl ⟨_, ‹_›, raise_next h⟩
  · exact .inr ⟨‹_›, respond_next h⟩

/-- INIT succeeds only in UNCONFIGURED, on a configuration that passes checks 1 to 10. -/
theorem initFailure_none_iff :
    initFailure s = none ↔ s.phase = .unconfigured ∧ firstFailure (configChecks s.params s.csr) = none := by
  unfold initFailure
  cases h : s.phase <;> simp [firstFailure]

theorem execSetPixel_next {i : Index} {d : Word} (h : execSetPixel i d s = .next t) :
    (s.phase ≠ .ready ∧ t = s.failed .notInitialized)
      ∨ (s.phase = .ready ∧ s.csr.numLeds ≤ i.toNat ∧ t = s.failed .rangeError)
      ∨ (s.phase = .ready ∧ i.toNat < s.csr.numLeds ∧ t = (s.writePixel i.toNat d).answered .nothing) := by
  unfold execSetPixel at h
  split at h
  · split at h
    · exact .inr (.inr ⟨‹_›, ‹_›, respond_next h⟩)
    · exact .inr (.inl ⟨‹_›, Nat.le_of_not_lt ‹_›, raise_next h⟩)
  · exact .inl ⟨‹_›, raise_next h⟩

theorem execGetPixel_next {i : Index} (h : execGetPixel i s = .next t) :
    (s.phase ≠ .ready ∧ t = s.failed .notInitialized)
      ∨ (s.phase = .ready ∧ s.csr.numLeds ≤ i.toNat ∧ t = s.failed .rangeError)
      ∨ (s.phase = .ready ∧ i.toNat < s.csr.numLeds ∧ t = s.answered (.word (pack (s.readPixel i.toNat)))) := by
  unfold execGetPixel at h
  split at h
  · split at h
    · exact .inr (.inr ⟨‹_›, ‹_›, respond_next h⟩)
    · exact .inr (.inl ⟨‹_›, Nat.le_of_not_lt ‹_›, raise_next h⟩)
  · exact .inl ⟨‹_›, raise_next h⟩

theorem execFill_next {d : Word} (h : execFill d s = .next t) :
    (s.phase ≠ .ready ∧ t = s.failed .notInitialized)
      ∨ (s.phase = .ready ∧ t = (s.fillPixels d).answered .nothing) := by
  unfold execFill at h
  split at h
  · exact .inr ⟨‹_›, respond_next h⟩
  · exact .inl ⟨‹_›, raise_next h⟩

theorem execClear_next (h : execClear s = .next t) :
    (s.phase ≠ .ready ∧ t = s.failed .notInitialized)
      ∨ (s.phase = .ready ∧ t = s.zeroPixels.answered .nothing) := by
  unfold execClear at h
  split at h
  · exact .inr ⟨‹_›, respond_next h⟩
  · exact .inl ⟨‹_›, raise_next h⟩

theorem execEncode_next {d : Word} (h : execEncode d s = .next t) :
    (s.phase ≠ .ready ∧ t = s.failed .notInitialized)
      ∨ (s.phase = .ready ∧ channelValue d = none ∧ t = s.failed .rangeError)
      ∨ (s.phase = .ready ∧ ∃ v, channelValue d = some v ∧ t = s.answered (.bytes (lutEntry s.lut v))) := by
  unfold execEncode at h
  split at h
  · split at h
    · exact .inr (.inl ⟨‹_›, ‹_›, raise_next h⟩)
    · exact .inr (.inr ⟨‹_›, _, ‹_›, respond_next h⟩)
  · exact .inl ⟨‹_›, raise_next h⟩

/-- The five ways a RENDER can complete: refused before INIT (R158), a buffer of the wrong shape (R134), the
transport's two answers, and a reset while it waits (R243). -/
theorem execRender_next (h : execRender s = .next t) :
    (s.phase ≠ .ready ∧ t = s.failed .notInitialized)
      ∨ (s.phase = .ready ∧ ∃ e, buildFrame s.csr s.lut s.pix = .error e ∧ t = s.failed e)
      ∨ (s.phase = .ready ∧ ∃ frame, buildFrame s.csr s.lut s.pix = .ok frame
          ∧ ((s.nextOutcome = .answered .ok ∧ t = (s.countRender.transmit frame).answered .nothing)
            ∨ (s.nextOutcome = .answered .fail ∧ t = (s.countRender.transmit frame).failed .transportError)
            ∨ ∃ bits, s.nextOutcome = .reset bits ∧ t = (s.countRender.transmit frame).resetBlock)) := by
  unfold execRender at h
  split at h
  · split at h
    · exact .inr (.inl ⟨‹_›, _, ‹_›, raise_next h⟩)
    · refine .inr (.inr ⟨‹_›, _, ‹_›, ?_⟩)
      unfold finishRender at h
      have hn : s.countRender.nextOutcome = s.nextOutcome := rfl
      rw [hn] at h
      split at h
      · exact .inl ⟨‹_›, respond_next h⟩
      · exact .inr (.inl ⟨‹_›, raise_next h⟩)
      · cases h
      · refine .inr (.inr ⟨_, ‹_›, ?_⟩)
        injection h with h; exact h.symm
  · exact .inl ⟨‹_›, raise_next h⟩

/-! ## The step -/

theorem step_idle (h : s.host = []) : step s = .next s := by
  simp [step, State.takeEvent, h]

theorem step_event {e : HostEvent} {rest : List HostEvent} (h : s.host = e :: rest) :
    step s = runEvent e { s with host := rest } := by
  simp [step, State.takeEvent, h]

end Sys2Proof.Machine
end

