-- ==== Sys2Proof/Laws/PerInstr.lean ====
section
/-! SUPPORT. A fact about every command as syntax: the encoder writes a canonical word (spec 30_encoding.md R87, R91). -/

namespace Sys2Proof.Laws.CanonicalWord

/-- The word of the command has a mapped opcode and 0 in every ignored field. -/
def Statement (i : Instr) : Prop := wordCanonical (encode i) = true

theorem csrWrite (n : Index) (value : Word) : Statement (.csrWrite n value) := by
  simp [Statement, wordCanonical, encode, clearIgnored, opcodeMapped, usesIdx, usesData]

theorem csrRead (n : Index) : Statement (.csrRead n) := by
  simp [Statement, wordCanonical, encode, clearIgnored, opcodeMapped, usesIdx, usesData]

theorem init : Statement .init := by
  simp [Statement, wordCanonical, encode, clearIgnored, opcodeMapped, usesIdx, usesData]

theorem setPixel (i : Index) (color : Word) : Statement (.setPixel i color) := by
  simp [Statement, wordCanonical, encode, clearIgnored, opcodeMapped, usesIdx, usesData]

theorem getPixel (i : Index) : Statement (.getPixel i) := by
  simp [Statement, wordCanonical, encode, clearIgnored, opcodeMapped, usesIdx, usesData]

theorem fill (color : Word) : Statement (.fill color) := by
  simp [Statement, wordCanonical, encode, clearIgnored, opcodeMapped, usesIdx, usesData]

theorem clear : Statement .clear := by
  simp [Statement, wordCanonical, encode, clearIgnored, opcodeMapped, usesIdx, usesData]

theorem encode (v : Word) : Statement (.encode v) := by
  simp [Statement, wordCanonical, Sys2Proof.encode, clearIgnored, opcodeMapped, usesIdx, usesData]

theorem render : Statement .render := by
  simp [Statement, wordCanonical, Sys2Proof.encode, clearIgnored, opcodeMapped, usesIdx, usesData]

end Sys2Proof.Laws.CanonicalWord
end

