-- ==== Sys2Proof/Laws/Wire.lean ====
section
/-! SUPPORT. The small laws of the wire: bits of joined frames, the line over joined records of calls, how long a part of
it lasts. -/

namespace Sys2Proof.Machine

theorem wireBits_append (a b : List Byte) : wireBits (a ++ b) = wireBits a ++ wireBits b := by
  simp [wireBits]

/-- R136: a reset region is low. -/
theorem wireBits_zeros (n : Nat) : wireBits (zeros n) = List.replicate (8 * n) false := by
  have h : byteBits 0 = List.replicate 8 false := by decide
  induction n with
  | zero => rfl
  | succ n ih =>
    have hs : zeros (n + 1) = 0 :: zeros n := rfl
    rw [hs, wireBits, List.flatMap_cons, ← wireBits, ih, h, ← List.replicate_add]
    congr 1
    omega

theorem bitStretches_append (f : Nat) (a b : List Bool) :
    bitStretches f (a ++ b) = bitStretches f a ++ bitStretches f b := by
  simp [bitStretches]

/-- The line of a longer record is the line of its beginning, then the line of the rest. -/
theorem lineOver_append (idle unstated : Nat → Rat) (n : Nat) (a b : List Transmission) :
    lineOver idle unstated n (a ++ b) = lineOver idle unstated n a ++ lineOver idle unstated (n + a.length) b := by
  induction a generalizing n with
  | nil => rfl
  | cons t rest ih =>
    have hn : n + 1 + rest.length = n + (rest.length + 1) := by omega
    simp [lineOver, ih, hn]

/-- One more call adds the idle time and the call's own stretches. -/
theorem line_snoc {s t : State} {x : Transmission} (idle unstated : Nat → Rat)
    (h : t.transmissions = s.transmissions ++ [x]) :
    t.line idle unstated = s.line idle unstated ++ [⟨some false, idle s.transmissions.length⟩]
      ++ x.stretches (unstated s.transmissions.length) := by
  simp [State.line, h, lineOver_append, lineOver]

/-- The line is a function of the calls alone. -/
theorem line_congr {s t : State} (idle unstated : Nat → Rat) (h : t.transmissions = s.transmissions) :
    t.line idle unstated = s.line idle unstated := by
  simp [State.line, h]

@[simp] theorem lineSeconds_nil : lineSeconds [] = 0 := rfl

@[simp] theorem lineSeconds_cons (x : Stretch) (l : List Stretch) :
    lineSeconds (x :: l) = x.seconds + lineSeconds l := rfl

@[simp] theorem lineSeconds_append (a b : List Stretch) : lineSeconds (a ++ b) = lineSeconds a + lineSeconds b := by
  simp [lineSeconds]

/-- R138: n bits at f Hz last n / f seconds. -/
theorem lineSeconds_bitStretches (f : Nat) (bits : List Bool) :
    lineSeconds (bitStretches f bits) = (bits.length : Rat) / f := by
  induction bits with
  | nil => simp [bitStretches]
  | cons b rest ih =>
    have hs : bitStretches f (b :: rest) = ⟨some b, 1 / (f : Rat)⟩ :: bitStretches f rest := rfl
    rw [hs, lineSeconds_cons, ih]
    push_cast [List.length_cons]
    ring

end Sys2Proof.Machine
end

