-- ==== Sys2Proof/Tests/Slice0.lean ====
section
/-! SUPPORT. Tests: ill-formed terms are refused; words written out field by field decode to their commands; one-step
vectors of spec/95_test_vectors.md; and, for every obligation with hypotheses, a state and operands that meet them
together (named witness_<obligation>), clause by clause where it has clauses. -/

open Sys2Proof Sys2Proof.Machine Sys2Proof.Spec

namespace Sys2Proof.Tests

/-! ## Small states -/

/-- V2.3's symbols (S = 3, 100 and 110 at 2.4 MHz) on two pixels, with a short reset time. -/
def smallParams : Params := { Params.default with tResetMinNs := 1000 }

/-- Its registers before INIT, with explicit reset counts 1 and 2. -/
def smallCsr : CsrFile :=
  { CsrFile.reset with
    ledCount := 2, symbolBits := 3, pattern0 := 4, pattern1 := 6, clockRate := 2400000, resetLead := 1, resetTrail := 2 }

/-- UNCONFIGURED, ready for INIT. -/
def beforeInit : State := { State.reset with params := smallParams, csr := smallCsr }

/-- READY, with two pixels. -/
def afterInit : State :=
  { State.reset with
    params := smallParams
    phase := .ready
    csr := { smallCsr with frameLen := 21 }
    lut := smallCsr.buildLut
    pix := [[0x12, 0x34, 0x56], [0, 0, 0xA5]] }

/-- READY with four slots a pixel. -/
def afterInitRgbw : State :=
  { afterInit with
    csr := { smallCsr with channelOrder := 2, frameLen := 27 }
    pix := [[0x12, 0x34, 0x56, 0x78], [0, 0, 0, 0xA5]] }

/-- `s` with the transport's next answer fixed. -/
def answering (o : WaitOutcome) (s : State) : State := { s with transport := [o] }

/-- `s` with the host's next event. -/
def sending (w : CmdWord) (s : State) : State := { s with host := [.command w] }

/-- The next state, or the state before if there is none. -/
def after (o : Host.Outcome State Fault Refusal) (s : State) : State :=
  match o with
  | .next t => t
  | .fault _ => s
  | .refused _ => s

/-- The last response after a command. -/
def answer (i : Instr) (s : State) : Option Response := (after (exec i s) s).responses.getLast?

theorem afterInit_consistent : afterInit.Consistent :=
  ⟨fun h => (by cases h), fun _ => ⟨by decide, rfl, by decide, by decide, by decide, by decide⟩⟩

theorem afterInitRgbw_consistent : afterInitRgbw.Consistent :=
  ⟨fun h => (by cases h), fun _ => ⟨by decide, rfl, by decide, by decide, by decide, by decide⟩⟩

theorem beforeInit_consistent : beforeInit.Consistent :=
  ⟨fun _ => ⟨rfl, rfl, rfl, rfl⟩, fun h => (by cases h)⟩

/-! ## Well-formedness smoke -/

theorem test_params_default_wellFormed : Params.default.wellFormed = true := by decide
theorem test_params_refuses_no_leds : ({ Params.default with maxLedCount := 0 } : Params).wellFormed = false := by decide
theorem test_params_refuses_too_many_leds :
    ({ Params.default with maxLedCount := 0x1000000 } : Params).wellFormed = false := by decide
theorem test_params_refuses_t0h : ({ Params.default with t0hMinNs := 551 } : Params).wellFormed = false := by decide
theorem test_params_refuses_t0l : ({ Params.default with t0lMaxNs := 699 } : Params).wellFormed = false := by decide
theorem test_params_refuses_t1h : ({ Params.default with t1hMinNs := 951 } : Params).wellFormed = false := by decide
theorem test_params_refuses_t1l : ({ Params.default with t1lMaxNs := 299 } : Params).wellFormed = false := by decide
theorem test_word_refuses_reserved_opcode : wordCanonical 0x0A00000000000000 = false := by decide
theorem test_word_refuses_ignored_bits : wordCanonical 0x0709ABCD12345678 = false := by decide
theorem test_word_accepts_clear : wordCanonical 0x0700000000000000 = true := by decide
theorem test_pixels_refuse_wrong_count : pixelsFit 2 3 [[1, 2, 3]] = false := by decide
theorem test_pixels_refuse_short_pixel : pixelsFit 2 3 [[1, 2, 3], [1, 2]] = false := by decide

/-! ## Decoding: words written out from the fields of R80 and R87 -/

/-- OPC 00000001, IDX 0, DATA 24 (the example of R180). -/
theorem test_decode_csrWrite :
    decode ((0b00000001 : BitVec 8) ++ (0b000000000000000000000000 : BitVec 24)
      ++ (0b00000000000000000000000000011000 : BitVec 32)) = .command (.csrWrite 0 24) := by decide
/-- OPC 00000010, IDX 0x10. -/
theorem test_decode_csrRead :
    decode ((0b00000010 : BitVec 8) ++ (0b000000000000000000010000 : BitVec 24) ++ (0 : BitVec 32))
      = .command (.csrRead 0x10) := by decide
theorem test_decode_init : decode 0x0300000000000000 = .command .init := by decide
/-- V4.1. -/
theorem test_decode_setPixel : decode 0x04000001123456AB = .command (.setPixel 1 0x123456AB) := by decide
/-- V4.3. -/
theorem test_decode_getPixel : decode 0x0500000300000000 = .command (.getPixel 3) := by decide
/-- V4.6. -/
theorem test_decode_fill : decode 0x06000000FFFFFF00 = .command (.fill 0xFFFFFF00) := by decide
/-- V4.10. -/
theorem test_decode_clear : decode 0x0709ABCD12345678 = .command .clear := by decide
/-- V2.1, with IDX not 0. -/
theorem test_decode_encode : decode 0x08ABCDEF000000A5 = .command (.encode 0xA5) := by decide
/-- V4.11. -/
theorem test_decode_render : decode 0x0900000000000000 = .command .render := by decide
/-- V7.3. -/
theorem test_decode_reserved : decode 0xFFFFFFFFFFFFFFFF = .illegal 0xFF := by decide
theorem test_table_word_short : decodeTableWord 64 0x0500000300000000 = some (.getPixel 3) := by decide
theorem test_table_word_reserved : decodeTableWord 64 0 = none := by decide

/-! ## One step each, from the spec's vectors -/

/-- R180's example. -/
theorem test_csrWrite_ledCount : (after (exec (.csrWrite 0 24) State.reset) State.reset).csr.ledCount = 24 := by decide
/-- V5.10. -/
theorem test_csrWrite_outside_field : answer (.csrWrite 0 0x01000000) State.reset = some ⟨.configurationError, .nothing⟩ := by
  decide
/-- V5.1. -/
theorem test_csrRead_clockRate : answer (.csrRead 5) State.reset = some ⟨.ok, .word 0x0061A800⟩ := by decide
/-- V5.7: not an alias of 0x00. -/
theorem test_csrRead_no_alias : answer (.csrRead 0x100) State.reset = some ⟨.illegalCommand, .nothing⟩ := by decide
/-- V6.1: FRAME_LEN = 472. -/
theorem test_init_frame_length :
    (after (exec .init { State.reset with csr := { CsrFile.reset with ledCount := 1 } }) State.reset).csr.frameLen = 472 := by
  decide
/-- V6.26: check 10. -/
theorem test_init_short_lead :
    answer .init { State.reset with csr := { CsrFile.reset with ledCount := 1, resetLead := 223 } }
      = some ⟨.protocolTimingViolation, .nothing⟩ := by decide
/-- V4.1: DATA[7:0] is dropped under C = 3. -/
theorem test_setPixel_drops_slot3 :
    (after (exec (.setPixel 1 0x123456AB) afterInit) afterInit).pix = [[0x12, 0x34, 0x56], [0x12, 0x34, 0x56]] := by
  decide
/-- L1.4: i = N. -/
theorem test_setPixel_at_count : answer (.setPixel 2 0x12345678) afterInit = some ⟨.rangeError, .nothing⟩ := by decide
/-- V4.2: slot 3 reads 0. -/
theorem test_getPixel_three_slots : answer (.getPixel 0) afterInit = some ⟨.ok, .word 0x12345600⟩ := by decide
/-- R65: slot 3 is DATA[7:0] when C = 4. -/
theorem test_getPixel_four_slots : answer (.getPixel 0) afterInitRgbw = some ⟨.ok, .word 0x12345678⟩ := by decide
/-- V4.6. -/
theorem test_fill : (after (exec (.fill 0xFFFFFF00) afterInit) afterInit).pix = [[0xFF, 0xFF, 0xFF], [0xFF, 0xFF, 0xFF]] := by
  decide
/-- V4.8. -/
theorem test_clear : (after (exec .clear afterInit) afterInit).pix = [[0, 0, 0], [0, 0, 0]] := by decide
/-- V2.3, where symbols straddle bytes, and V2.2, two symbols a byte. -/
theorem test_encode_symbols :
    encodeByte 3 4 6 0xA5 = [0xD3, 0x49, 0xA6] ∧ encodeByte 4 0x8 0xE 0xA5 = [0xE8, 0xE8, 0x8E, 0x8E] := by decide
/-- R114, V2.1: rejected, not wrapped. -/
theorem test_encode_out_of_range : answer (.encode 0x100) afterInit = some ⟨.rangeError, .nothing⟩ := by decide
/-- V4.12: counted although it failed, and LAST_ERR = 3. -/
theorem test_render_fail :
    (after (exec .render (answering (.answered .fail) afterInit)) afterInit).readCsr .renderCount = 1
    ∧ (after (exec .render (answering (.answered .fail) afterInit)) afterInit).readCsr .status = 0x00000301 := by decide
/-- R158: RENDER_COUNT wraps. -/
theorem test_render_count_wraps :
    (State.countRender { afterInit with csr := { afterInit.csr with renderCount := 0xFFFFFFFF } }).csr.renderCount = 0 := by
  decide
/-- P4: STATUS after a locked write. -/
theorem test_status_locked : statusWord .ready .configLocked = 0x00000701 := by decide
/-- V3.6: the wire bits of D3 49 A6. -/
theorem test_wire_bits :
    wireBits [0xD3, 0x49, 0xA6]
      = [true, true, false, true, false, false, true, true, false, true, false, false,
         true, false, false, true, true, false, true, false, false, true, true, false] := by decide
/-- R138, R143: the line over two calls of one byte each at 8 Hz, 1 s and 3 s of idle time before them: 6 s. -/
theorem test_line_seconds :
    lineSeconds (lineOver (fun n => if n = 0 then 1 else 3) (fun _ => 0) 0
      [⟨[], [0xF0], 8, .answered .ok⟩, ⟨[], [0x00], 8, .answered .ok⟩]) = 6 := by decide +kernel
/-- V2.5, by R120's symbols: 0xFE, and no value. -/
theorem test_decode_channel :
    decodeChannel ((List.range 256).map (fun v => encodeByte 8 0xC0 0xF8 (BitVec.ofNat 8 v)))
      [0xF8, 0xF8, 0xF8, 0xF8, 0xF8, 0xF8, 0xF8, 0xC0] = some 0xFE := by decide +kernel
theorem test_decode_channel_none :
    decodeChannel ((List.range 256).map (fun v => encodeByte 8 0xC0 0xF8 (BitVec.ofNat 8 v)))
      [0xF8, 0xC0, 0xF8, 0xC0, 0xC0, 0xF8, 0xC0, 0xFC] = none := by decide +kernel
/-- R188's table of AUTO counts, at 1 000 001 Hz: rounded up. -/
theorem test_auto_rounds_up : neededBytes Params.default 1000001 = 36 := by decide
/-- R43's largest frame length. -/
theorem test_largest_frame :
    CsrFile.frameLength { CsrFile.reset with
      ledCount := 0xFFFFFF, channelOrder := 2, symbolBits := 32, resetLead := 0xFFFFFF, resetTrail := 0xFFFFFF }
      = 2181037950 := by decide
/-- V4.1 as a text, with a comment. -/
theorem test_assemble : assemble "SETPIX 1, 0x123456AB ; V4.1" = some [0x04000001123456AB] := by decide +kernel
/-- R92: a pseudo-instruction, in lower case. -/
theorem test_assemble_pseudo : assemble "resetmargin 300" = some [0x010000060000012C, 0x010000070000012C] := by
  decide +kernel

/-! ## Witnesses: encoding and the command port -/

theorem witness_EncodeOfDecodeClearsIgnoredFields : decode 0x0709ABCD12345678 = .command .clear := by decide

theorem witness_ReservedOpcodesAreIllegal :
    ((sending 0 afterInit).host = [.command 0] ∧ (opcOf 0).toNat = 0)
    ∧ 0x0A ≤ (opcOf 0x0A00000000000000).toNat ∧ (opcOf 0xFF00000000000000).toNat ≤ 0xFF
    ∧ 0x0A ≤ (opcOf 0xFF00000000000000).toNat := ⟨⟨rfl, by decide⟩, by decide, by decide, by decide⟩

theorem witness_IgnoredFieldsHaveNoEffect :
    (sending 0x0709ABCD12345678 afterInit).host = .command 0x0709ABCD12345678 :: [] := rfl

theorem witness_StepRunsTheDecodedCommand :
    ((sending 0x0500000300000000 afterInit).host = .command 0x0500000300000000 :: []
      ∧ decode 0x0500000300000000 = .command (.getPixel 3))
    ∧ State.reset.host = [] := ⟨⟨rfl, by decide⟩, rfl⟩

/-! ## Witnesses: reset, invariant, phase -/

theorem witness_ResetInputGivesResetValues :
    ({ afterInit with host := [.reset] } : State).host = .reset :: [] := rfl

theorem witness_StepKeepsConsistency :
    (sending 0x06000000FFFFFF00 afterInit).Consistent ∧ ∃ t, step (sending 0x06000000FFFFFF00 afterInit) = .next t :=
  ⟨afterInit_consistent, _, rfl⟩

/-- Both sides of the alternative. -/
theorem witness_StepStopsOnlyAtASilentTransport :
    (∃ t, step State.reset = .next t)
    ∧ step (sending 0x0900000000000000 (answering .never afterInit)) = .fault .transportNeverAnswers :=
  ⟨⟨_, rfl⟩, rfl⟩

theorem witness_PhaseChangesOnlyByInitAndReset :
    (∃ t, step { afterInit with host := [.reset] } = .next t ∧ afterInit.phase = .ready ∧ t.phase = .unconfigured)
    ∧ ∃ t, step (sending 0x0300000000000000 beforeInit) = .next t ∧ beforeInit.phase = .unconfigured ∧ t.phase = .ready :=
  ⟨⟨_, rfl, rfl, rfl⟩, ⟨_, rfl, rfl, rfl⟩⟩

theorem witness_ConfigurationIsConstantInReady :
    ∃ t, step (sending 0x0700000000000000 afterInit) = .next t ∧ (sending 0x0700000000000000 afterInit).phase = .ready
      ∧ ¬ (sending 0x0700000000000000 afterInit).StepResets ∧ (sending 0x0700000000000000 afterInit).Consistent := by
  refine ⟨_, rfl, rfl, ?_, afterInit_consistent⟩
  rintro (h | ⟨⟨w, hw, hd⟩, -⟩)
  · cases h
  · injection hw with hw
    injection hw with hw
    subst hw
    revert hd
    decide

/-! ## Witnesses: responses and errors -/

/-- A failure with no other effect, a transport failure, and a reserved opcode. -/
theorem witness_FailingCommandWritesOnlyLastErr :
    (∃ t, runWord 0x0500000200000000 afterInit = .next t ∧ t.responses = afterInit.responses ++ [⟨.rangeError, .nothing⟩])
    ∧ (∃ t, runWord 0x0900000000000000 (answering (.answered .fail) afterInit) = .next t
        ∧ t.responses = afterInit.responses ++ [⟨.transportError, .nothing⟩])
    ∧ ∃ t, runWord 0 afterInit = .next t ∧ t.responses = afterInit.responses ++ [⟨.illegalCommand, .nothing⟩] :=
  ⟨⟨_, rfl, rfl⟩, ⟨_, rfl, rfl⟩, ⟨_, rfl, rfl⟩⟩

/-- A command that answers, and the RENDER that does not. -/
theorem witness_EveryCommandReturnsOneResponse :
    (afterInit.Consistent ∧ ∃ t, runWord 0x08000000000000A5 afterInit = .next t)
    ∧ (answering (.reset 5) afterInit).Consistent
      ∧ ∃ t, runWord 0x0900000000000000 (answering (.reset 5) afterInit) = .next t :=
  ⟨⟨afterInit_consistent, _, rfl⟩, afterInit_consistent, _, rfl⟩

theorem witness_LastErrIsSticky :
    (∃ t, step { afterInit with host := [.reset] } = .next t
      ∧ ({ afterInit with host := [.reset] } : State).StepResets)
    ∧ (∃ t, step afterInit = .next t ∧ ¬ afterInit.StepResets ∧ afterInit.host = [])
    ∧ ∃ t, step (sending 0 afterInit) = .next t ∧ ¬ (sending 0 afterInit).StepResets
      ∧ (sending 0 afterInit).host ≠ [] := by
  refine ⟨⟨_, rfl, .inl rfl⟩, ⟨_, rfl, ?_, rfl⟩, ⟨_, rfl, ?_, by decide⟩⟩
  · rintro (h | ⟨⟨w, hw, -⟩, -⟩)
    · cases h
    · cases hw
  · rintro (h | ⟨⟨w, hw, hd⟩, -⟩)
    · cases h
    · injection hw with hw
      injection hw with hw
      subst hw
      revert hd
      decide

theorem witness_ErrorsComeFromTheirCommands :
    afterInit.Consistent ∧ ∃ t, exec .init afterInit = .next t
      ∧ t.responses = afterInit.responses ++ [⟨.configLocked, .nothing⟩] :=
  ⟨afterInit_consistent, _, rfl, rfl⟩

/-- Both ends of the configuration registers' numbers. -/
theorem witness_PhaseControlsAccess :
    State.reset.phase = .unconfigured ∧ afterInit.phase = .ready ∧ (0 : Index).toNat ≤ 9 ∧ (9 : Index).toNat ≤ 9 := by
  decide

/-! ## Witnesses: registers -/

/-- n = 0x0A, 0x10, 0x13 and 0xFFFFFF are no configuration register; n = 0 and 9 are; a bit outside a field, and none. -/
theorem witness_CsrWriteCommand :
    (¬ (0x0A : Index).toNat ≤ 9 ∧ ¬ (0x10 : Index).toNat ≤ 9 ∧ ¬ (0x13 : Index).toNat ≤ 9 ∧ ¬ (0xFFFFFF : Index).toNat ≤ 9)
    ∧ ((9 : Index).toNat ≤ 9 ∧ afterInit.phase = .ready)
    ∧ ((0 : Index).toNat ≤ 9 ∧ State.reset.phase = .unconfigured
        ∧ (0x01000000 : Word) &&& ~~~ maskAt (0 : Index).toNat ≠ 0)
    ∧ (9 : Index).toNat ≤ 9 ∧ State.reset.phase = .unconfigured
        ∧ (0xFFFFFFFF : Word) &&& ~~~ maskAt (9 : Index).toNat = 0 := by decide

/-- The unmapped numbers' boundaries, none of which is a mapped one. -/
theorem witness_CsrReadCommand :
    afterInit.Consistent ∧ State.reset.Consistent
    ∧ ([0x0A, 0x0F, 0x13, 0xFFFFFF] : List Index).all (fun n =>
        decide ((0x0A ≤ n.toNat ∧ n.toNat ≤ 0x0F) ∨ 0x13 ≤ n.toNat)) = true
    ∧ ([0x09, 0x10, 0x12] : List Index).all (fun n =>
        decide (¬ ((0x0A ≤ n.toNat ∧ n.toNat ≤ 0x0F) ∨ 0x13 ≤ n.toNat))) = true :=
  ⟨afterInit_consistent, ⟨fun _ => ⟨rfl, rfl, rfl, rfl⟩, fun h => (by cases h)⟩, by decide, by decide⟩

/-! ## Witnesses: INIT -/

/-- A trailing region of one byte that must last 5000 ns at 2.4 MHz, which takes two. -/
def shortTrail : State :=
  { beforeInit with
    params := { smallParams with tResetMinNs := 5000 }, csr := { smallCsr with resetLead := 2, resetTrail := 1 } }

/-- Checks 0 to 11 hold for both, with h0 = 1 and h1 = 2. -/
theorem small_checks : ∀ s, s = beforeInit ∨ s = shortTrail → ∀ k, k ≤ 11 → initCheck s k := by
  have h0 : hasShape 3 (4 % 2 ^ 3) 1 := by unfold hasShape; decide
  have h1 : hasShape 3 (6 % 2 ^ 3) 2 := by unfold hasShape; decide
  rintro s (rfl | rfl) k hk
  all_goals
    interval_cases k <;> first
      | exact rfl
      | exact .inl rfl
      | exact ⟨⟨1, h0⟩, ⟨2, h1⟩⟩
      | exact ⟨1, 2, h0, h1, by decide, by decide, by decide, by decide⟩
      | exact ⟨by decide, by decide⟩
      | simp only [initCheck]; decide

theorem beforeInit_checks : ∀ k, k ≤ 12 → initCheck beforeInit k := by
  intro k hk
  rcases Nat.lt_or_ge k 12 with h | h
  · exact small_checks _ (.inl rfl) k (by omega)
  · obtain rfl : k = 12 := by omega
    simp only [initCheck]; decide

/-- Every check passes; the first check fails (READY); the second fails (no LEDs); the last fails. -/
theorem witness_InitCommand :
    (∀ k, k ≤ 12 → initCheck beforeInit k)
    ∧ ((∀ j, j < 0 → initCheck afterInit j) ∧ ¬ initCheck afterInit 0)
    ∧ ((∀ j, j < 1 → initCheck State.reset j) ∧ ¬ initCheck State.reset 1)
    ∧ (∀ j, j < 12 → initCheck shortTrail j) ∧ ¬ initCheck shortTrail 12 := by
  refine ⟨beforeInit_checks, ⟨fun _ h => absurd h (Nat.not_lt_zero _), by intro h; cases h⟩, ⟨fun j h => ?_, ?_⟩,
    fun j h => small_checks _ (.inr rfl) j (by omega), ?_⟩
  · obtain rfl : j = 0 := by omega
    exact rfl
  · simp only [initCheck]; decide
  · simp only [initCheck]; decide

theorem witness_ResetConfigurationIsValid :
    1 ≤ (1 : BitVec 24).toNat ∧ (1 : BitVec 24).toNat ≤ 1024
    ∧ State.reset.params = { Params.default with maxLedCount := 1024 } ∧ State.reset.phase = .unconfigured
    ∧ ({ CsrFile.reset with ledCount := 1 } : CsrFile) = { CsrFile.reset with ledCount := 1, lastErr := .ok } :=
  ⟨by decide, by decide, rfl, rfl, rfl⟩

theorem witness_FrameLengthFitsItsRegister : ({ CsrFile.reset with symbolBits := 32 } : CsrFile).symbolWidth ≤ 32 := by
  decide

/-! ## Witnesses: encoder, frames, wire -/

/-- DATA = 0xFF and 0x100. -/
theorem witness_EncodeCommand :
    (State.reset.Consistent ∧ State.reset.phase = .unconfigured)
    ∧ afterInit.Consistent ∧ afterInit.phase = .ready ∧ 0xFF < (0x100 : Word).toNat ∧ (0xFF : Word).toNat ≤ 0xFF :=
  ⟨⟨⟨fun _ => ⟨rfl, rfl, rfl, rfl⟩, fun h => (by cases h)⟩, rfl⟩, afterInit_consistent, rfl, by decide, by decide⟩

theorem witness_EncodingIsInjective :
    ((4 : Nat) < 2 ^ 3 ∧ (6 : Nat) < 2 ^ 3 ∧ (4 : Nat) ≠ 6 ∧ encodeByte 3 4 6 0xA5 = encodeByte 3 4 6 0xA5)
    ∧ afterInit.Consistent ∧ afterInit.phase = .ready ∧ lutEntry afterInit.lut 0 = lutEntry afterInit.lut 0 :=
  ⟨⟨by decide, by decide, by decide, rfl⟩, afterInit_consistent, rfl, rfl⟩

/-- Also the hypotheses of FrameLayout, LedBitsMeetTheirWindows and ActiveRegionIsATrainOfPulses. -/
theorem witness_DecodeChannelInvertsEncodeByte : afterInit.Consistent ∧ afterInit.phase = .ready :=
  ⟨afterInit_consistent, rfl⟩

/-- A byte sequence that is no symbol sequence: its length is not S. -/
theorem witness_DecodeChannelInvertsEncodeByte_none : ∀ v : Byte, afterInit.csr.encodeByte v ≠ [] := by
  intro v h
  have : (afterInit.csr.encodeByte v).length = 0 := by rw [h]; rfl
  revert this
  show (encodeByte 3 4 6 v).length = 0 → False
  intro h3
  cases h3

theorem witness_FrameLayout : afterInitRgbw.Consistent ∧ afterInitRgbw.phase = .ready :=
  ⟨afterInitRgbw_consistent, rfl⟩

theorem witness_LedBitsMeetTheirWindows : afterInit.Consistent ∧ afterInit.phase = .ready :=
  ⟨afterInit_consistent, rfl⟩

/-- A low run of 2 bits, the longest a symbol of `afterInit` has (100: S - h0 = 2), after the first high bit; and the
first and last of the 48 LED bits. -/
theorem witness_ActiveRegionIsATrainOfPulses :
    afterInit.Consistent ∧ afterInit.phase = .ready
    ∧ wireBits (activeRegion afterInit.lut afterInit.pix)
        = [true] ++ List.replicate 2 false ++ (wireBits (activeRegion afterInit.lut afterInit.pix)).drop 3
    ∧ 0 < 8 * (afterInit.csr.numLeds * afterInit.csr.channels)
    ∧ 47 < 8 * (afterInit.csr.numLeds * afterInit.csr.channels) :=
  ⟨afterInit_consistent, rfl, by decide +kernel, by decide, by decide⟩

theorem witness_DecodeFrameInvertsBuildFrame :
    afterInit.Consistent ∧ afterInit.phase = .ready ∧ ([[1, 2, 3], [4, 5, 6]] : List (List Byte)).length = afterInit.csr.numLeds
    ∧ ∀ p ∈ ([[1, 2, 3], [4, 5, 6]] : List (List Byte)), p.length = afterInit.csr.channels :=
  ⟨afterInit_consistent, rfl, by decide, by decide⟩

/-- Too few pixels; a pixel with too few slots. -/
theorem witness_WrongShapeIsNoFrame :
    ([[1, 2, 3]] : List (List Byte)).length ≠ afterInit.csr.numLeds
    ∧ (∃ p ∈ ([[1, 2, 3], [4, 5]] : List (List Byte)), p.length ≠ afterInit.csr.channels)
    ∧ afterInit.Consistent ∧ afterInit.phase = .ready :=
  ⟨by decide, ⟨[4, 5], by decide, by decide⟩, afterInit_consistent, rfl⟩

theorem witness_ResetRegionsAreLowAndLongEnough :
    afterInit.Consistent ∧ afterInit.phase = .ready
    ∧ (∃ F, buildFrame afterInit.csr afterInit.lut afterInit.pix = .ok F) ∧ 0 < afterInit.params.tResetMinNs :=
  ⟨afterInit_consistent, rfl, ⟨_, rfl⟩, by decide⟩

/-- The first and the last wire bit of one byte. -/
theorem witness_WireBitOrder : 0 < 8 * ([0xD3] : List Byte).length ∧ 7 < 8 * ([0xD3] : List Byte).length := by decide

/-! ## Witnesses: pixels -/

/-- UNCONFIGURED; i = N; i = N - 1. -/
theorem witness_SetPixelCommand :
    (State.reset.Consistent ∧ State.reset.phase = .unconfigured)
    ∧ (afterInit.Consistent ∧ afterInit.phase = .ready ∧ afterInit.csr.numLeds ≤ (2 : Index).toNat)
    ∧ (1 : Index).toNat < afterInit.csr.numLeds :=
  ⟨⟨⟨fun _ => ⟨rfl, rfl, rfl, rfl⟩, fun h => (by cases h)⟩, rfl⟩, ⟨afterInit_consistent, rfl, by decide⟩, by decide⟩

/-- UNCONFIGURED; i = N; i = N - 1, with three slots. -/
theorem witness_GetPixelCommand :
    State.reset.phase = .unconfigured ∧ afterInit.phase = .ready ∧ afterInit.csr.numLeds ≤ (2 : Index).toNat
    ∧ (1 : Index).toNat < afterInit.csr.numLeds ∧ afterInit.csr.channels = 3 := by decide

theorem witness_GetPixelAfterSetPixel :
    afterInitRgbw.Consistent ∧ afterInitRgbw.phase = .ready ∧ (1 : Index).toNat < afterInitRgbw.csr.numLeds
    ∧ (∃ t, exec (.setPixel 1 0x01020304) afterInitRgbw = .next t)
    ∧ (0 : Index) ≠ 1 ∧ (0 : Index).toNat < afterInitRgbw.csr.numLeds :=
  ⟨afterInitRgbw_consistent, rfl, by decide, ⟨_, rfl⟩, by decide, by decide⟩

theorem witness_FillCommand :
    State.reset.phase = .unconfigured ∧ afterInit.phase = .ready ∧ 1 < afterInit.csr.numLeds
    ∧ 2 < afterInit.csr.channels := by decide

theorem witness_ClearCommand : State.reset.phase = .unconfigured ∧ afterInit.phase = .ready := by decide

/-! ## Witnesses: RENDER -/

theorem witness_RenderCommand :
    (State.reset.Consistent ∧ State.reset.phase = .unconfigured)
    ∧ ((answering (.answered .ok) afterInit).Consistent ∧ (answering (.answered .ok) afterInit).phase = .ready
        ∧ (answering (.answered .ok) afterInit).nextOutcome = .answered .ok)
    ∧ (answering (.answered .fail) afterInit).Consistent ∧ (answering (.answered .fail) afterInit).phase = .ready
        ∧ (answering (.answered .fail) afterInit).nextOutcome = .answered .fail :=
  ⟨⟨⟨fun _ => ⟨rfl, rfl, rfl, rfl⟩, fun h => (by cases h)⟩, rfl⟩, ⟨afterInit_consistent, rfl, rfl⟩,
    afterInit_consistent, rfl, rfl⟩

theorem witness_RenderIsStuckWithoutAnswer :
    (answering .never afterInit).Consistent ∧ (answering .never afterInit).phase = .ready
    ∧ (answering .never afterInit).nextOutcome = .never := ⟨afterInit_consistent, rfl, rfl⟩

theorem witness_ResetDuringRender :
    (answering (.reset 5) afterInit).Consistent ∧ (answering (.reset 5) afterInit).phase = .ready
    ∧ (answering (.reset 5) afterInit).nextOutcome = .reset 5 := ⟨afterInit_consistent, rfl, rfl⟩

/-- A failed RENDER, a failing SET_PIXEL's quiet neighbour, and a second RENDER. -/
theorem witness_RenderIsIdempotent :
    ∃ t u v a b, (∀ i ∈ [Instr.getPixel 0, .csrWrite 0 5], quiet i)
      ∧ exec .render { afterInit with transport := [.answered .fail, .answered .ok] } = .next t
      ∧ t.transmissions = afterInit.transmissions ++ [a] ∧ t.phase = .ready
      ∧ runCommands [.getPixel 0, .csrWrite 0 5] t = some u
      ∧ exec .render u = .next v ∧ v.transmissions = u.transmissions ++ [b] := by
  refine ⟨_, _, _, _, _, ?_, rfl, rfl, rfl, rfl, rfl, rfl⟩
  intro i hi
  simp at hi
  rcases hi with rfl | rfl <;> trivial

theorem witness_OnlyRenderTransmits :
    (∃ t, exec .clear afterInit = .next t)
    ∧ ∃ t, exec .render (answering (.answered .ok) afterInit) = .next t
      ∧ (answering (.answered .ok) afterInit).phase = .ready ∧ (answering (.answered .ok) afterInit).Consistent :=
  ⟨⟨_, rfl⟩, _, rfl, rfl, afterInit_consistent⟩

/-- Each of the three commands. -/
theorem witness_ReadsHaveNoSideEffects :
    (∃ t r, exec (.csrRead 0x12) State.reset = .next t ∧ t.responses = State.reset.responses ++ [r] ∧ r.stat = .ok)
    ∧ (∃ t r, exec (.getPixel 1) afterInit = .next t ∧ t.responses = afterInit.responses ++ [r] ∧ r.stat = .ok)
    ∧ ∃ t r, exec (.encode 0xFF) afterInit = .next t ∧ t.responses = afterInit.responses ++ [r] ∧ r.stat = .ok :=
  ⟨⟨_, _, rfl, rfl, rfl⟩, ⟨_, _, rfl, rfl, rfl⟩, ⟨_, _, rfl, rfl, rfl⟩⟩

theorem witness_LedsChangeOnlyAtRender :
    ((answering (.answered .ok) afterInit).Consistent ∧ (answering (.answered .ok) afterInit).phase = .ready
      ∧ (∃ t, exec .render (answering (.answered .ok) afterInit) = .next t)
      ∧ (answering (.answered .ok) afterInit).nextOutcome = .answered .ok
      ∧ (∃ t, exec .render (answering (.answered .fail) afterInit) = .next t)
      ∧ (answering (.answered .fail) afterInit).nextOutcome = .answered .fail)
    ∧ Instr.fill 0 ≠ .render ∧ ∃ t, exec (.fill 0) afterInit = .next t :=
  ⟨⟨afterInit_consistent, rfl, ⟨_, rfl⟩, rfl, ⟨_, rfl⟩, rfl⟩, by decide, _, rfl⟩

/-! ## Witnesses: the line over successive frames -/

/-- A RENDER with each outcome, and an event that is no RENDER. -/
theorem witness_RenderExtendsTheLine :
    (∃ t, runEvent .reset afterInit = .next t)
    ∧ ¬ (∃ w, HostEvent.reset = .command w ∧ decode w = .command .render)
    ∧ (∃ t, exec .render (answering (.answered .ok) afterInit) = .next t)
    ∧ (∃ t, exec .render (answering (.answered .fail) afterInit) = .next t)
    ∧ (∃ t, exec .render (answering (.reset 5) afterInit) = .next t)
    ∧ (answering (.answered .ok) afterInit).Consistent ∧ (answering (.answered .ok) afterInit).phase = .ready := by
  refine ⟨⟨_, rfl⟩, ?_, ⟨_, rfl⟩, ⟨_, rfl⟩, ⟨_, rfl⟩, afterInit_consistent, rfl⟩
  rintro ⟨w, hw, -⟩
  cases hw

/-- FILL between two RENDERs, and no idle time: the record of calls is unchanged between them. -/
theorem witness_FramesKeepTheirDistance :
    (∀ _ : Nat, (0 : Rat) ≤ 0)
    ∧ ∃ t u v, ({ afterInit with transport := [.answered .ok, .answered .ok] } : State).Consistent
      ∧ exec .render { afterInit with transport := [.answered .ok, .answered .ok] } = .next t
      ∧ runEvents [.command 0x06000000FFFFFF00] t = some u ∧ u.phase = .ready ∧ u.nextOutcome = .answered .ok
      ∧ exec .render u = .next v ∧ u.transmissions = t.transmissions :=
  ⟨fun _ => le_refl 0, _, _, _, afterInit_consistent, rfl, rfl, rfl, rfl, rfl, rfl⟩

/-! ## Witnesses: assembler -/

/-- Both ends of each operand range. -/
theorem witness_AssembledWords : (0xFFFFFF : Nat) < 2 ^ 24 ∧ (0xFFFFFFFF : Nat) < 2 ^ 32 ∧ (0 : Nat) < 2 ^ 24 := by decide

/-- Both sides of the slot range. -/
theorem witness_PseudoInstructionsExpand :
    (0xFFFFFFFF : Nat) < 2 ^ 32 ∧ (0xFFFFFF : Nat) < 2 ^ 24 ∧ (255 : Nat) ≤ 255 ∧ (255 : Nat) < 256 := by decide

end Sys2Proof.Tests
end

section
/-! The wire bits of a frame, read by position (spec 20_memory.md R66). -/

namespace Sys2Proof.Machine

@[simp] theorem byteBits_length (b : Byte) : (byteBits b).length = 8 := by simp [byteBits]

/-- Bit 7 of a byte goes on the wire first and bit 0 last. -/
theorem byteBits_getElem? (b : Byte) {j : Nat} (h : j < 8) : (byteBits b)[j]? = some (b.getLsbD (7 - j)) := by
  simp [byteBits, h]

theorem wireBits_cons (b : Byte) (F : List Byte) : wireBits (b :: F) = byteBits b ++ wireBits F := List.flatMap_cons

@[simp] theorem wireBits_length (F : List Byte) : (wireBits F).length = 8 * F.length := by
  induction F with
  | nil => rfl
  | cons b F ih =>
    rw [wireBits_cons, List.length_append, byteBits_length, ih, List.length_cons]
    omega

/-- R66's formula. It holds at every position: past the end, neither the wire bit nor the byte exists. -/
theorem wireBits_getElem? (F : List Byte) (j : Nat) :
    (wireBits F)[j]? = (F[j / 8]?).map (fun b => b.getLsbD (7 - j % 8)) := by
  induction F generalizing j with
  | nil => simp [wireBits]
  | cons b F ih =>
    rw [wireBits_cons]
    by_cases h : j < 8
    · have hdiv : j / 8 = 0 := Nat.div_eq_of_lt h
      have hmod : j % 8 = j := Nat.mod_eq_of_lt h
      rw [List.getElem?_append_left (by simpa using h), byteBits_getElem? b h, hdiv, hmod]
      rfl
    · have hdiv : j / 8 = (j - 8) / 8 + 1 := by omega
      have hmod : j % 8 = (j - 8) % 8 := by omega
      rw [List.getElem?_append_right (by simpa using h), byteBits_length, ih, hdiv, hmod,
        List.getElem?_cons_succ]

/-- Settles O35, by induction on the frame: a position lies in the first byte or 8 bits further on. -/
theorem wireBitOrder : Obligations.WireBitOrder :=
  fun F => ⟨wireBits_length F, fun j _ => wireBits_getElem? F j⟩

end Sys2Proof.Machine
end

section
/-! The frame a READY block would hand over, and what keeps it (spec 20_memory.md R71): a command that neither mutates
pixels nor renders changes only LAST_ERR and the responses, and a RENDER changes neither the LUT nor the buffer. -/

namespace Sys2Proof.Machine

open Sys2Proof.Spec

variable {s t : State} {F : List Byte}

/-- The block is READY, and `F` is the frame of its configuration, LUT and pixel buffer as they stand (R130). -/
structure State.Offers (s : State) (F : List Byte) : Prop where
  ready : s.phase = .ready
  builds : buildFrame s.csr s.lut s.pix = .ok F

/-- A state offers one frame. -/
theorem State.Offers.unique {G : List Byte} (hF : s.Offers F) (hG : s.Offers G) : F = G :=
  Except.ok.inj (hF.builds.symm.trans hG.builds)

theorem State.Offers.answered (h : s.Offers F) (d : RData) : (s.answered d).Offers F := ⟨h.ready, h.builds⟩

/-- LAST_ERR is no input of the frame. -/
theorem State.Offers.failed (h : s.Offers F) (e : StatusCode) : (s.failed e).Offers F := ⟨h.ready, h.builds⟩

/-- RENDER_COUNT and the record of calls are no inputs of the frame. -/
theorem State.Offers.transmitted (h : s.Offers F) (G : List Byte) : (s.countRender.transmit G).Offers F :=
  ⟨h.ready, h.builds⟩

/-! ## RENDER -/

theorem transmit_frame {a : Transmission} {G : List Byte}
    (h : (s.transmit G).transmissions = s.transmissions ++ [a]) : G = a.frame :=
  congrArg Transmission.frame (List.singleton_inj.mp (List.append_cancel_left h))

/-- A RENDER that hands over a frame hands over the one the state offers (R74, R158). -/
theorem offers_of_render {a : Transmission} (h : exec .render s = .next t)
    (ha : t.transmissions = s.transmissions ++ [a]) : s.Offers a.frame := by
  rcases execRender_next h with ⟨-, rfl⟩ | ⟨-, e, -, rfl⟩ | ⟨hr, G, hG, ⟨-, rfl⟩ | ⟨-, rfl⟩ | ⟨bits, -, rfl⟩⟩
  · simp at ha
  · simp at ha
  all_goals exact ⟨hr, transmit_frame ha ▸ hG⟩

/-- A RENDER that no reset cuts short leaves the offered frame as it was, whatever the transport answered. -/
theorem render_keeps_offer (hs : s.Offers F) (h : exec .render s = .next t) (ht : t.phase = .ready) : t.Offers F := by
  rcases execRender_next h with ⟨-, rfl⟩ | ⟨-, e, -, rfl⟩ | ⟨-, G, -, ⟨-, rfl⟩ | ⟨-, rfl⟩ | ⟨bits, -, rfl⟩⟩
  · exact hs.failed _
  · exact hs.failed _
  · exact (hs.transmitted G).answered _
  · exact (hs.transmitted G).failed _
  · simp at ht

/-! ## The commands between -/

/-- In READY, a command that neither mutates pixels nor renders only answers or fails: CSR_WRITE and INIT are refused
there (R73), and the others read. -/
theorem exec_quiet_next {i : Instr} (hi : quiet i) (hs : s.phase = .ready) (h : exec i s = .next t) :
    (∃ d, t = s.answered d) ∨ ∃ e, t = s.failed e := by
  cases i with
  | csrWrite n d =>
    rcases execCsrWrite_next h with ht | ⟨r, -, ⟨-, ht⟩ | ⟨hn, -⟩ | ⟨hn, -⟩⟩
    · exact .inr ⟨_, ht⟩
    · exact .inr ⟨_, ht⟩
    · exact absurd hs hn
    · exact absurd hs hn
  | csrRead n =>
    rcases execCsrRead_next h with ⟨-, ht⟩ | ⟨x, -, ht⟩
    · exact .inr ⟨_, ht⟩
    · exact .inl ⟨_, ht⟩
  | init =>
    rcases execInit_next h with ⟨e, -, ht⟩ | ⟨hn, -⟩
    · exact .inr ⟨e, ht⟩
    · simp [initFailure_none_iff, hs] at hn
  | getPixel j =>
    rcases execGetPixel_next h with ⟨-, ht⟩ | ⟨-, -, ht⟩ | ⟨-, -, ht⟩
    · exact .inr ⟨_, ht⟩
    · exact .inr ⟨_, ht⟩
    · exact .inl ⟨_, ht⟩
  | encode d =>
    rcases execEncode_next h with ⟨-, ht⟩ | ⟨-, -, ht⟩ | ⟨-, v, -, ht⟩
    · exact .inr ⟨_, ht⟩
    · exact .inr ⟨_, ht⟩
    · exact .inl ⟨_, ht⟩
  | setPixel _ _ | fill _ | clear | render => exact hi.elim

theorem quiet_keeps_offer {i : Instr} (hi : quiet i) (hs : s.Offers F) (h : exec i s = .next t) : t.Offers F := by
  rcases exec_quiet_next hi hs.ready h with ⟨d, rfl⟩ | ⟨e, rfl⟩
  · exact hs.answered d
  · exact hs.failed e

theorem runCommands_cons_some {i : Instr} {is : List Instr} (h : runCommands (i :: is) s = some t) :
    ∃ m, exec i s = .next m ∧ runCommands is m = some t := by
  unfold runCommands at h
  split at h
  · exact ⟨_, ‹_›, h⟩
  · cases h
  · cases h

theorem runCommands_quiet_keeps_offer {is : List Instr} (hq : ∀ i ∈ is, quiet i) (hs : s.Offers F)
    (h : runCommands is s = some t) : t.Offers F := by
  induction is generalizing s with
  | nil =>
    injection h with h
    exact h ▸ hs
  | cons i is ih =>
    obtain ⟨hi, his⟩ := List.forall_mem_cons.mp hq
    obtain ⟨m, hm, hrest⟩ := runCommands_cons_some h
    exact ih his (quiet_keeps_offer hi hs hm) hrest

/-- Settles O46: the frame the first RENDER hands over is still offered when the second one comes. -/
theorem renderIsIdempotent : Obligations.RenderIsIdempotent := by
  intro s t u v between a b hq hst ha ht htu huv hb
  have hs : s.Offers a.frame := offers_of_render hst ha
  have hu : u.Offers a.frame := runCommands_quiet_keeps_offer hq (render_keeps_offer hs hst ht) htu
  exact hu.unique (offers_of_render huv hb)

end Sys2Proof.Machine
end

section
/-! Decoding by the fields a command uses (spec 30_encoding.md R83, R89), and the step on a reserved opcode (R88). -/

namespace Sys2Proof

/-- R83's table, IDX column, by opcode number. -/
theorem usesIdx_iff {opc : BitVec 8} :
    usesIdx opc = true ↔ opc.toNat = 0x01 ∨ opc.toNat = 0x02 ∨ opc.toNat = 0x04 ∨ opc.toNat = 0x05 := by
  simp [usesIdx, BitVec.toNat_eq, or_assoc]

/-- R83's table, DATA column, by opcode number. -/
theorem usesData_iff {opc : BitVec 8} :
    usesData opc = true ↔ opc.toNat = 0x01 ∨ opc.toNat = 0x04 ∨ opc.toNat = 0x06 ∨ opc.toNat = 0x08 := by
  simp [usesData, BitVec.toNat_eq, or_assoc]

/-- Decoding reads OPC and, of the other two fields, those the opcode uses (R83). -/
theorem decode_eq_of_used_fields {v w : CmdWord} (hopc : opcOf v = opcOf w)
    (hidx : usesIdx (opcOf w) = true → idxOf v = idxOf w)
    (hdata : usesData (opcOf w) = true → dataOf v = dataOf w) : decode v = decode w := by
  unfold decode
  rw [hopc]
  split
  case h_1 hw | h_4 hw => rw [hidx (by simp [usesIdx_iff, hw]), hdata (by simp [usesData_iff, hw])]
  case h_2 hw | h_5 hw => rw [hidx (by simp [usesIdx_iff, hw])]
  case h_6 hw | h_8 hw => rw [hdata (by simp [usesData_iff, hw])]
  case h_3 | h_7 | h_9 | h_10 => rfl

@[simp] theorem opcOf_clearIgnored (w : CmdWord) : opcOf (clearIgnored w) = opcOf w := opcOf_packCmd _ _ _

theorem idxOf_clearIgnored {w : CmdWord} (h : usesIdx (opcOf w) = true) : idxOf (clearIgnored w) = idxOf w := by
  simp [clearIgnored, h]

theorem dataOf_clearIgnored {w : CmdWord} (h : usesData (opcOf w) = true) : dataOf (clearIgnored w) = dataOf w := by
  simp [clearIgnored, h]

/-- R89: the ignored fields do not reach the command. -/
theorem decode_clearIgnored (w : CmdWord) : decode (clearIgnored w) = decode w :=
  decode_eq_of_used_fields (opcOf_clearIgnored w) idxOf_clearIgnored dataOf_clearIgnored

/-- R88: an opcode outside the nine mapped ones decodes to no command. -/
theorem decode_of_unmapped {w : CmdWord} (h : opcodeMapped (opcOf w) = false) : decode w = .illegal (opcOf w) := by
  unfold decode
  split
  case h_10 => rfl
  all_goals
    rename_i hw
    simp [opcodeMapped, hw] at h

end Sys2Proof

namespace Sys2Proof.Machine

variable {s : State} {w : CmdWord}

/-- A word acts through what it decodes to, and nothing else. -/
theorem runWord_congr {v w : CmdWord} (h : decode v = decode w) : runWord v = runWord w := by
  funext s
  simp only [runWord, h]

theorem runWord_of_illegal {opc : BitVec 8} (h : decode w = .illegal opc) :
    runWord w s = .next (s.failed .illegalCommand) := by
  simp only [runWord, h, raise]

/-- Settles O4: the reserved opcodes are those that are not mapped. -/
theorem reservedOpcodesAreIllegal : Obligations.ReservedOpcodesAreIllegal := by
  intro s w rest hhost hopc
  have hunmapped : opcodeMapped (opcOf w) = false := by
    simp only [opcodeMapped, Bool.and_eq_false_iff, decide_eq_false_iff_not]
    omega
  rw [step_event hhost]
  exact runWord_of_illegal (decode_of_unmapped hunmapped)

/-- Settles O5: the two words decode alike. -/
theorem ignoredFieldsHaveNoEffect : Obligations.IgnoredFieldsHaveNoEffect := by
  refine ⟨fun s w rest hhost => ?_, by decide⟩
  rw [step_event hhost, step_event rfl]
  exact (congrFun (runWord_congr (decode_clearIgnored w)) { s with host := rest }).symm

end Sys2Proof.Machine
end

section
/-! The pseudo-instructions of spec 30_encoding.md R92: the word of four slots, and the operands out of range. -/

namespace Sys2Proof.Machine

variable {n s0 s1 s2 s3 : Nat}

theorem asmIndex_of_lt (h : n < 2 ^ 24) : asmIndex n = some (BitVec.ofNat 24 n) := if_pos h

theorem asmData_of_lt (h : n < 2 ^ 32) : asmData n = some (BitVec.ofNat 32 n) := if_pos h

theorem asmSlot_of_le (h : n ≤ 255) : asmSlot n = some n := if_pos h

theorem asmSlot_of_gt (h : 255 < n) : asmSlot n = none := if_neg (Nat.not_le.mpr h)

theorem shiftLeft_or_eq_add {a b i : Nat} (h : b < 2 ^ i) : a <<< i ||| b = a * 2 ^ i + b := by
  rw [← Nat.shiftLeft_add_eq_or_of_lt h, Nat.shiftLeft_eq]

/-- R92's colour word: slots of 8 bits do not overlap, so joining them is adding them. -/
theorem slots_or_eq_add (h1 : s1 ≤ 255) (h2 : s2 ≤ 255) (h3 : s3 ≤ 255) :
    s0 <<< 24 ||| s1 <<< 16 ||| s2 <<< 8 ||| s3 = s0 * 2 ^ 24 + s1 * 2 ^ 16 + s2 * 2 ^ 8 + s3 := by
  rw [Nat.or_assoc, Nat.or_assoc, shiftLeft_or_eq_add (b := s3) (by omega), shiftLeft_or_eq_add (i := 16) (by omega),
    shiftLeft_or_eq_add (by omega), Nat.add_assoc, Nat.add_assoc]

theorem asmColour_of_le (h0 : s0 ≤ 255) (h1 : s1 ≤ 255) (h2 : s2 ≤ 255) (h3 : s3 ≤ 255) :
    asmColour s0 s1 s2 s3 = some (BitVec.ofNat 32 (s0 * 2 ^ 24 + s1 * 2 ^ 16 + s2 * 2 ^ 8 + s3)) := by
  rw [← slots_or_eq_add h1 h2 h3, asmColour, asmSlot_of_le h0, asmSlot_of_le h1, asmSlot_of_le h2, asmSlot_of_le h3]
  rfl

theorem asmColour_of_gt (h : 255 < s0 ∨ 255 < s1 ∨ 255 < s2 ∨ 255 < s3) : asmColour s0 s1 s2 s3 = none := by
  rcases h with h | h | h | h <;> simp [asmColour, asmSlot_of_gt h]

/-- Settles O53: an operand that fits is kept, and one slot above 255 leaves no colour word. -/
theorem pseudoInstructionsExpand : Obligations.PseudoInstructionsExpand := by
  refine ⟨fun n hn => ?margin, fun n hn => ?strip, fun i s0 s1 s2 hi h0 h1 h2 => ?setpix3,
    fun i s0 s1 s2 s3 hi h0 h1 h2 h3 => ?setpix4, fun s0 s1 s2 h0 h1 h2 => ?fill3,
    fun i s0 s1 s2 h => ?rejects3, fun i s0 s1 s2 s3 h => ?rejects4⟩
  case margin | strip => rw [AsmForm.expand, asmData_of_lt hn]; rfl
  case setpix3 => rw [AsmForm.expand, asmIndex_of_lt hi, asmColour_of_le h0 h1 h2 (Nat.zero_le _), Nat.add_zero]; rfl
  case setpix4 => rw [AsmForm.expand, asmIndex_of_lt hi, asmColour_of_le h0 h1 h2 h3]; rfl
  case fill3 => rw [AsmForm.expand, asmColour_of_le h0 h1 h2 (Nat.zero_le _), Nat.add_zero]; rfl
  case rejects3 =>
    have hnone : asmColour s0 s1 s2 0 = none := asmColour_of_gt (by omega)
    simp [AsmForm.expand, hnone]
  case rejects4 => simp [AsmForm.expand, asmColour_of_gt h]

end Sys2Proof.Machine
end

section
/-! The bits of an encoding by position (spec 40_bit_encoder.md R111, R115), and what they determine (R116). -/

namespace Sys2Proof.Machine

variable {S p0 p1 : Nat}

/-! ## Cutting bits into bytes (R8) -/

theorem byteBits_byteOfBits (b7 b6 b5 b4 b3 b2 b1 b0 : Bool) :
    byteBits (byteOfBits b7 b6 b5 b4 b3 b2 b1 b0) = [b7, b6, b5, b4, b3, b2, b1, b0] := by
  revert b7 b6 b5 b4 b3 b2 b1 b0
  decide

/-- R64: where no bit is left over, cutting into bytes loses none. -/
theorem wireBits_bytesOfBits : ∀ bits : List Bool, bits.length % 8 = 0 → wireBits (bytesOfBits bits) = bits
  | b7 :: b6 :: b5 :: b4 :: b3 :: b2 :: b1 :: b0 :: rest, h => by
    have hrest : rest.length % 8 = 0 := by
      simp only [List.length_cons] at h
      omega
    rw [bytesOfBits, wireBits_cons, byteBits_byteOfBits, wireBits_bytesOfBits rest hrest]
    rfl
  | [], _ => rfl
  | [_], h | [_, _], h | [_, _, _], h | [_, _, _, _], h | [_, _, _, _, _], h | [_, _, _, _, _, _], h
  | [_, _, _, _, _, _, _], h => nomatch h

/-! ## Symbols (R110) -/

@[simp] theorem ledBits_length (v : Byte) : (ledBits v).length = 8 := by simp [ledBits]

/-- R63: LED bit 7 goes first. -/
theorem ledBits_getElem? (v : Byte) {i : Nat} (h : i < 8) : (ledBits v)[i]? = some (v.getLsbD (7 - i)) := by
  simp [ledBits, h]

@[simp] theorem symbol_length (S p0 p1 : Nat) (b : Bool) : (symbol S p0 p1 b).length = S := by
  simp [symbol, patternBits]

/-- R62: pattern bit S-1 goes first. -/
theorem symbol_getElem? (b : Bool) {j : Nat} (h : j < S) :
    (symbol S p0 p1 b)[j]? = some ((if b then p1 else p0).testBit (S - 1 - j)) := by
  simp [symbol, patternBits, h]

/-- Pieces of one length n: position n·i + j is position j of piece i. -/
theorem getElem?_flatMap_of_length_eq {α β : Type} {f : α → List β} {n : Nat} (hf : ∀ a, (f a).length = n)
    (l : List α) (i : Nat) {j : Nat} (hj : j < n) : (l.flatMap f)[n * i + j]? = l[i]?.bind (fun a => (f a)[j]?) := by
  induction l generalizing i with
  | nil => rfl
  | cons a l ih =>
    rw [List.flatMap_cons]
    cases i with
    | zero =>
      rw [Nat.mul_zero, Nat.zero_add, List.getElem?_append_left (by rw [hf]; exact hj)]
      rfl
    | succ i =>
      have hpos : n * (i + 1) + j = n + (n * i + j) := by rw [Nat.mul_succ]; omega
      rw [hpos, List.getElem?_append_right (by rw [hf]; omega), hf, Nat.add_sub_cancel_left, ih,
        List.getElem?_cons_succ]

/-! ## The encoding's bits (R111, R115) -/

/-- R64: a value's eight symbols are a whole number of bytes. -/
theorem symbols_length (S p0 p1 : Nat) (v : Byte) : ((ledBits v).flatMap (symbol S p0 p1)).length = 8 * S := by
  rw [List.length_flatMap, funext (symbol_length S p0 p1), List.map_const', List.sum_replicate, ledBits_length,
    smul_eq_mul]

theorem wireBits_encodeByte (S p0 p1 : Nat) (v : Byte) :
    wireBits (encodeByte S p0 p1 v) = (ledBits v).flatMap (symbol S p0 p1) :=
  wireBits_bytesOfBits _ (by rw [symbols_length, Nat.mul_mod_right])

@[simp] theorem encodeByte_length (S p0 p1 : Nat) (v : Byte) : (encodeByte S p0 p1 v).length = S := by
  have h : 8 * (encodeByte S p0 p1 v).length = 8 * S := by
    rw [← wireBits_length, wireBits_encodeByte, symbols_length]
  omega

theorem encodeByte_bit (p0 p1 : Nat) (v : Byte) {i j : Nat} (hi : i < 8) (hj : j < S) :
    (wireBits (encodeByte S p0 p1 v))[S * i + j]?
      = some ((if v.getLsbD (7 - i) then p1 else p0).testBit (S - 1 - j)) := by
  rw [wireBits_encodeByte, getElem?_flatMap_of_length_eq (symbol_length S p0 p1) _ _ hj, ledBits_getElem? v hi]
  exact symbol_getElem? _ hj

/-- Settles O28: the wire bits are the eight symbols one after another, each S bits long. -/
theorem encodedBitsAreTheSymbols : Obligations.EncodedBitsAreTheSymbols :=
  fun S p0 p1 v => ⟨encodeByte_length S p0 p1 v, fun _ _ hi hj => encodeByte_bit p0 p1 v hi hj⟩

/-! ## Injectivity (R116) -/

theorem exists_testBit_ne (h0 : p0 < 2 ^ S) (h1 : p1 < 2 ^ S) (hne : p0 ≠ p1) :
    ∃ j < S, p0.testBit j ≠ p1.testBit j := by
  obtain ⟨j, hj⟩ := Nat.exists_testBit_ne_of_ne hne
  refine ⟨j, ?_, hj⟩
  by_contra hge
  have hpow : 2 ^ S ≤ 2 ^ j := Nat.pow_le_pow_right (by decide) (Nat.le_of_not_lt hge)
  rw [Nat.testBit_lt_two_pow (h0.trans_le hpow), Nat.testBit_lt_two_pow (h1.trans_le hpow)] at hj
  exact hj rfl

/-- A pattern bit in which the patterns differ tells the LED bit. -/
theorem ledBit_eq_of_testBit_eq {j : Nat} (hne : p0.testBit j ≠ p1.testBit j) {a b : Bool}
    (h : (if a then p1 else p0).testBit j = (if b then p1 else p0).testBit j) : a = b := by
  cases a <;> cases b
  case false.false | true.true => rfl
  case false.true => exact absurd h hne
  case true.false => exact absurd h.symm hne

theorem encodeByte_injective (h0 : p0 < 2 ^ S) (h1 : p1 < 2 ^ S) (hne : p0 ≠ p1) :
    Function.Injective (encodeByte S p0 p1) := by
  intro u v huv
  obtain ⟨j, hj, hbit⟩ := exists_testBit_ne h0 h1 hne
  refine BitVec.eq_of_getLsbD_eq fun k hk => ledBit_eq_of_testBit_eq hbit ?_
  have hi : 7 - (7 - k) = k := by omega
  have hpos : S - 1 - (S - 1 - j) = j := by omega
  have hu := encodeByte_bit (S := S) p0 p1 u (i := 7 - k) (j := S - 1 - j) (by omega) (by omega)
  have hv := encodeByte_bit (S := S) p0 p1 v (i := 7 - k) (j := S - 1 - j) (by omega) (by omega)
  rw [huv, hv, hi, hpos] at hu
  exact (Option.some.inj hu).symm

end Sys2Proof.Machine
end

section
/-! The LUT of a consistent READY block: its entries (spec 20_memory.md R77), ENCODE, which reads one (40_bit_encoder.md
R114), and `decode_channel`, which searches it (R119). -/

namespace Sys2Proof.Machine

open Sys2Proof.Spec

variable {c : CsrFile} {s : State} {d : Word} {v : Byte} {bs : List Byte}

/-! ## Entries -/

theorem buildLut_getElem? (c : CsrFile) {n : Nat} (h : n < 256) :
    c.buildLut[n]? = some (c.encodeByte (BitVec.ofNat 8 n)) := by
  simp [CsrFile.buildLut, h]

@[simp] theorem lutEntry_buildLut (c : CsrFile) (v : Byte) : lutEntry c.buildLut v = c.encodeByte v := by
  rw [lutEntry, List.getD_eq_getElem?_getD, buildLut_getElem? c v.isLt, BitVec.ofNat_toNat, BitVec.setWidth_eq]
  rfl

theorem lut_eq_buildLut (hs : s.Consistent) (hr : s.phase = .ready) : s.lut = s.csr.buildLut := by
  obtain ⟨-, hlut, -⟩ := hs.2 hr
  exact hlut

/-- R185's check 6. -/
theorem patternZero_ne_patternOne (hs : s.Consistent) (hr : s.phase = .ready) :
    s.csr.patternZero ≠ s.csr.patternOne := by
  obtain ⟨hchecks, -⟩ := hs.2 hr
  have h6 := firstFailure_none_iff.mp hchecks (s.csr.patternZero != s.csr.patternOne, .configurationError)
    (by simp [configChecks])
  exact bne_iff_ne.mp h6

theorem csrEncodeByte_injective (hs : s.Consistent) (hr : s.phase = .ready) :
    Function.Injective s.csr.encodeByte :=
  have hpow : 0 < 2 ^ s.csr.symbolWidth := Nat.two_pow_pos _
  encodeByte_injective (Nat.mod_lt _ hpow) (Nat.mod_lt _ hpow) (patternZero_ne_patternOne hs hr)

/-- Settles O29: a pattern bit that differs gives every LED bit back, and INIT's check 6 makes the patterns differ. -/
theorem encodingIsInjective : Obligations.EncodingIsInjective := by
  refine ⟨fun S p0 p1 u v h0 h1 hne huv => encodeByte_injective h0 h1 hne huv, fun s u v hs hr huv => ?_⟩
  rw [lut_eq_buildLut hs hr, lutEntry_buildLut, lutEntry_buildLut] at huv
  exact csrEncodeByte_injective hs hr huv

/-! ## decode_channel -/

theorem encodeByte_of_decodeChannel (h : decodeChannel c.buildLut bs = some v) : c.encodeByte v = bs := by
  obtain ⟨n, hfind, rfl⟩ := Option.map_eq_some_iff.mp h
  have hn : n < 256 := List.mem_range.mp (List.mem_of_find?_eq_some hfind)
  have hentry := List.find?_some hfind
  rw [beq_iff_eq, buildLut_getElem? c hn] at hentry
  exact Option.some.inj hentry

theorem encodeByte_ne_of_decodeChannel_none (h : decodeChannel c.buildLut bs = none) (v : Byte) :
    c.encodeByte v ≠ bs := by
  intro hv
  have hmiss := List.find?_eq_none.mp (Option.map_eq_none_iff.mp h) v.toNat (List.mem_range.mpr v.isLt)
  rw [buildLut_getElem? c v.isLt, BitVec.ofNat_toNat, BitVec.setWidth_eq, hv] at hmiss
  exact hmiss (beq_self_eq_true _)

/-- Settles O30: what `decode_channel` finds encodes to its argument, and it misses no encoding. -/
theorem decodeChannelInvertsEncodeByte : Obligations.DecodeChannelInvertsEncodeByte := by
  intro s hs hr
  rw [lut_eq_buildLut hs hr]
  refine ⟨fun v => ?encoding, fun bs hno => ?other⟩
  case encoding =>
    cases hdec : decodeChannel s.csr.buildLut (s.csr.encodeByte v) with
    | none => exact absurd rfl (encodeByte_ne_of_decodeChannel_none hdec v)
    | some u => rw [csrEncodeByte_injective hs hr (encodeByte_of_decodeChannel hdec)]
  case other =>
    cases hdec : decodeChannel s.csr.buildLut bs with
    | none => rfl
    | some u => exact absurd (encodeByte_of_decodeChannel hdec) (hno u)

/-! ## ENCODE -/

/-- R86: DATA[31:8] is 0 exactly when DATA is at most 0xFF. -/
theorem extractLsb'_high_eq_zero_iff (d : Word) : d.extractLsb' 8 24 = 0 ↔ d.toNat ≤ 0xFF := by
  rw [BitVec.toNat_eq, BitVec.extractLsb'_toNat, Nat.shiftRight_eq_div_pow]
  have hd : d.toNat < 2 ^ 32 := d.isLt
  simp only [BitVec.ofNat_eq_ofNat, BitVec.toNat_ofNat]
  omega

theorem channelValue_of_le (h : d.toNat ≤ 0xFF) : channelValue d = some (BitVec.ofNat 8 d.toNat) := by
  rw [channelValue, if_pos ((extractLsb'_high_eq_zero_iff d).mpr h)]
  rfl

theorem channelValue_of_gt (h : 0xFF < d.toNat) : channelValue d = none :=
  if_neg fun hhigh => Nat.not_le.mpr h ((extractLsb'_high_eq_zero_iff d).mp hhigh)

theorem execEncode_of_not_ready (hr : s.phase ≠ .ready) : execEncode d s = .next (s.failed .notInitialized) :=
  if_neg hr

theorem execEncode_of_gt (hr : s.phase = .ready) (h : 0xFF < d.toNat) :
    execEncode d s = .next (s.failed .rangeError) := by
  rw [execEncode, if_pos hr, channelValue_of_gt h]
  rfl

theorem execEncode_of_le (hr : s.phase = .ready) (h : d.toNat ≤ 0xFF) :
    execEncode d s = .next (s.answered (.bytes (lutEntry s.lut (BitVec.ofNat 8 d.toNat)))) := by
  rw [execEncode, if_pos hr, channelValue_of_le h]
  rfl

/-- Settles O27, by the phase and by whether DATA fits a byte; the entry read is the encoding (R77). -/
theorem encodeCommand : Obligations.EncodeCommand := by
  intro d s hs
  refine ⟨fun hu => ?unconfigured, fun hr hd => ?tooLarge, fun hr hd => ?answered⟩
  case unconfigured => exact execEncode_of_not_ready (by simp [hu])
  case tooLarge => exact execEncode_of_gt hr hd
  case answered =>
    have hentry : lutEntry s.lut (BitVec.ofNat 8 d.toNat) = s.csr.encodeByte (BitVec.ofNat 8 d.toNat) := by
      rw [lut_eq_buildLut hs hr, lutEntry_buildLut]
    refine ⟨?_, hentry⟩
    have hexec := execEncode_of_le hr hd
    rw [hentry] at hexec
    exact hexec

end Sys2Proof.Machine
end

section
/-! The frame by position (spec 41_frame_builder.md R130, R135) and what each of its slots decodes to (R141). -/

namespace Sys2Proof.Machine

variable {c : CsrFile} {s : State} {lut pix : List (List Byte)} {F : List Byte}

/-! ## Lists by position -/

/-- `getElem?_flatMap_of_length_eq` where only the list's own pieces have one length. -/
theorem getElem?_flatten_of_length_eq {α : Type} {L : List (List α)} {n : Nat} (h : ∀ l ∈ L, l.length = n) (i : Nat)
    {j : Nat} (hj : j < n) : L.flatten[n * i + j]? = L[i]?.bind (fun l => l[j]?) := by
  lift L to List { l : List α // l.length = n } using h
  rw [← List.flatMap_def, getElem?_flatMap_of_length_eq Subtype.property L i hj, List.getElem?_map, Option.bind_map]
  rfl

/-- Reading every position of a list gives the list. -/
theorem mapM_range_of_eq_getElem? {α : Type} {f : Nat → Option α} {l : List α}
    (h : ∀ (i : Nat) (hi : i < l.length), f i = some l[i]) : (List.range l.length).mapM f = some l := by
  induction l using List.reverseRecOn with
  | nil => rfl
  | append_singleton l a ih =>
    have hinit : (List.range l.length).mapM f = some l := ih fun i hi => by
      rw [h i (by simp; omega), List.getElem_append_left hi]
    have hlast : f l.length = some a := by rw [h _ (by simp), List.getElem_concat_length rfl]
    rw [List.length_append, List.length_singleton, List.range_succ, List.mapM_append, hinit]
    simp [hlast]

/-- A position of the active region, in bytes, is byte b of slot k of pixel i, as R130 numbers them. -/
theorem slot_position (C S q : Nat) : S * (C * (q / (C * S)) + q % (C * S) / S) + q % S = q := by
  rw [Nat.mod_mul_left_div_self, Nat.mul_comm C S, ← Nat.div_div_eq_div_mul, Nat.div_add_mod, Nat.div_add_mod]

/-! ## The shape of the buffer (R36, R134) -/

theorem buildFrame_unfit (h : ¬ pixelsFit c.numLeds c.channels pix = true) :
    buildFrame c lut pix = .error .configurationError :=
  if_neg h

theorem buildFrame_ok (h : buildFrame c lut pix = .ok F) :
    pixelsFit c.numLeds c.channels pix = true
      ∧ F = zeros c.leadBytes ++ activeRegion lut pix ++ zeros c.trailBytes := by
  by_cases hfit : pixelsFit c.numLeds c.channels pix = true
  · rw [buildFrame_fit hfit] at h
    exact ⟨hfit, (Except.ok.inj h).symm⟩
  · rw [buildFrame_unfit hfit] at h
    cases h

theorem pixelsFit_of_ready (hs : s.Consistent) (hr : s.phase = .ready) :
    pixelsFit s.csr.numLeds s.csr.channels s.pix = true := by
  obtain ⟨-, -, hfit, -⟩ := hs.2 hr
  exact hfit

theorem frameLen_of_ready (hs : s.Consistent) (hr : s.phase = .ready) :
    s.csr.frameLen.toNat = s.csr.frameLength := by
  obtain ⟨-, -, -, hlen, -⟩ := hs.2 hr
  exact hlen

/-- Settles O33: a buffer with a frame has the right shape, and the block's own buffer keeps its shape. -/
theorem wrongShapeIsNoFrame : Obligations.WrongShapeIsNoFrame := by
  refine ⟨fun c lut pix hwrong => buildFrame_unfit fun hfit => ?shape, fun s hs hr e => ?own⟩
  case shape =>
    obtain ⟨hlen, hslots⟩ := pixelsFit_iff.mp hfit
    rcases hwrong with hn | ⟨p, hp, hc⟩
    · exact hn hlen
    · exact hc (hslots p hp)
  case own =>
    rw [buildFrame_fit (pixelsFit_of_ready hs hr)]
    exact nofun

/-! ## The three regions (R130) -/

@[simp] theorem zeros_length (n : Nat) : (zeros n).length = n := List.length_replicate

theorem zeros_getElem? {n j : Nat} (h : j < n) : (zeros n)[j]? = some 0 := List.getElem?_replicate_of_lt h

@[simp] theorem csrEncodeByte_length (c : CsrFile) (v : Byte) : (c.encodeByte v).length = c.symbolWidth :=
  encodeByte_length _ _ _ v

/-- R130 to R132: the slots in strip order, each through the LUT. -/
theorem activeRegion_buildLut (c : CsrFile) (pix : List (List Byte)) :
    activeRegion c.buildLut pix = pix.flatten.flatMap c.encodeByte := by
  rw [activeRegion, funext (lutEntry_buildLut c), ← List.flatMap_id', List.flatMap_assoc]

theorem activeRegion_length (hfit : pixelsFit c.numLeds c.channels pix = true) :
    (activeRegion c.buildLut pix).length = c.numLeds * c.channels * c.symbolWidth := by
  obtain ⟨hlen, hslots⟩ := pixelsFit_iff.mp hfit
  have hflat : pix.flatten.length = c.numLeds * c.channels := by
    rw [List.length_flatten, List.map_congr_left hslots, List.map_const', List.sum_replicate, hlen, smul_eq_mul]
  rw [activeRegion_buildLut, List.length_flatMap, funext (csrEncodeByte_length c), List.map_const', List.sum_replicate,
    hflat, smul_eq_mul]

/-- Byte b of slot k of pixel i in the active region. -/
theorem activeRegion_getElem? (hfit : pixelsFit c.numLeds c.channels pix = true) {i k b : Nat} {v : Byte}
    (hk : k < c.channels) (hb : b < c.symbolWidth) (hv : pix[i]?.bind (fun p => p[k]?) = some v) :
    (activeRegion c.buildLut pix)[c.symbolWidth * (c.channels * i + k) + b]? = (c.encodeByte v)[b]? := by
  obtain ⟨-, hslots⟩ := pixelsFit_iff.mp hfit
  rw [activeRegion_buildLut, getElem?_flatMap_of_length_eq (csrEncodeByte_length c) _ _ hb,
    getElem?_flatten_of_length_eq hslots i hk, hv]
  rfl

/-- R135: every frame has L bytes. -/
theorem frame_length (h : buildFrame c c.buildLut pix = .ok F) : F.length = c.frameLength := by
  obtain ⟨hfit, rfl⟩ := buildFrame_ok h
  rw [List.length_append, List.length_append, zeros_length, zeros_length, activeRegion_length hfit]
  rfl

theorem frame_getElem?_lead (h : buildFrame c lut pix = .ok F) {p : Nat} (hp : p < c.leadBytes) : F[p]? = some 0 := by
  obtain ⟨-, rfl⟩ := buildFrame_ok h
  rw [List.append_assoc, List.getElem?_append_left (by simpa using hp), zeros_getElem? hp]

theorem frame_getElem?_active (h : buildFrame c lut pix = .ok F) {q : Nat} (hq : q < (activeRegion lut pix).length) :
    F[c.leadBytes + q]? = (activeRegion lut pix)[q]? := by
  obtain ⟨-, rfl⟩ := buildFrame_ok h
  rw [List.append_assoc, List.getElem?_append_right (by simp), zeros_length, Nat.add_sub_cancel_left,
    List.getElem?_append_left hq]

theorem frame_getElem?_trail (h : buildFrame c lut pix = .ok F) {p : Nat} (hp : p < F.length)
    (hpast : c.leadBytes + (activeRegion lut pix).length ≤ p) : F[p]? = some 0 := by
  obtain ⟨-, rfl⟩ := buildFrame_ok h
  simp only [List.length_append, zeros_length] at hp
  rw [List.getElem?_append_right (by simpa using hpast), zeros_getElem? (by simp; omega)]

/-- R130's middle case, for the pixel buffer's slot (i, k). -/
theorem frame_getElem?_slot (h : buildFrame c c.buildLut pix = .ok F) {i k b : Nat} {v : Byte}
    (hk : k < c.channels) (hb : b < c.symbolWidth) (hv : pix[i]?.bind (fun p => p[k]?) = some v) :
    F[c.leadBytes + (c.symbolWidth * (c.channels * i + k) + b)]? = (c.encodeByte v)[b]? := by
  obtain ⟨hfit, -⟩ := buildFrame_ok h
  have hbyte := activeRegion_getElem? hfit hk hb hv
  have hx : (c.encodeByte v)[b]? = some _ := List.getElem?_eq_getElem (by simpa using hb)
  obtain ⟨hin, -⟩ := List.getElem?_eq_some_iff.mp (hbyte.trans hx)
  rw [frame_getElem?_active h hin, hbyte]

/-- In a buffer of the right shape, slot (i, k) exists and is `Pix(i, k)`. -/
theorem getElem?_pix (hfit : pixelsFit s.csr.numLeds s.csr.channels s.pix = true) {i k : Nat}
    (hi : i < s.csr.numLeds) (hk : k < s.csr.channels) :
    s.pix[i]?.bind (fun p => p[k]?) = some (s.slot i k) := by
  obtain ⟨hlen, hslots⟩ := pixelsFit_iff.mp hfit
  have hi' : i < s.pix.length := hlen.symm ▸ hi
  have hk' : k < s.pix[i].length := (hslots _ (List.getElem_mem hi')).symm ▸ hk
  simp [State.slot, List.getD_eq_getElem?_getD, hi', hk']

/-- Settles O31, region by region; a position of the active region is byte b of slot (i, k). -/
theorem frameLayout : Obligations.FrameLayout := by
  intro s hs hr S C active
  have hfit := pixelsFit_of_ready hs hr
  rw [lut_eq_buildLut hs hr]
  obtain ⟨F, hF⟩ : ∃ F, buildFrame s.csr s.csr.buildLut s.pix = .ok F := ⟨_, buildFrame_fit hfit⟩
  have hactive : (activeRegion s.csr.buildLut s.pix).length = active := activeRegion_length hfit
  refine ⟨F, hF, frame_length hF, (frame_length hF).trans (frameLen_of_ready hs hr).symm, fun p hp =>
    ⟨fun hlead => ?lead, fun hlead hend => ?active, fun hpast => ?trail⟩⟩
  case lead => exact frame_getElem?_lead hF hlead
  case trail => exact frame_getElem?_trail hF hp (hactive.symm ▸ hpast)
  case active =>
    intro q
    have hq : q < s.csr.numLeds * (C * S) := by
      rw [← Nat.mul_assoc]
      exact Nat.sub_lt_left_of_lt_add hlead hend
    have hCS : 0 < C * S := Nat.pos_of_ne_zero fun h0 => by simp [h0] at hq
    have hS : 0 < S := Nat.pos_of_mul_pos_left hCS
    have hi : q / (C * S) < s.csr.numLeds := Nat.div_lt_of_lt_mul (Nat.mul_comm _ _ ▸ hq)
    have hk : q % (C * S) / S < C := Nat.div_lt_of_lt_mul (Nat.mul_comm C S ▸ Nat.mod_lt q hCS)
    have hbyte := frame_getElem?_slot hF hk (Nat.mod_lt q hS) (getElem?_pix hfit hi hk)
    rw [slot_position, Nat.add_sub_cancel' hlead] at hbyte
    rw [hbyte, lutEntry_buildLut]

/-! ## Decoding a frame (R141, R142) -/

/-- The S bytes that `decode_frame` reads for slot (i, k) are the slot's encoding. -/
theorem frameSlot_eq_encodeByte (h : buildFrame c c.buildLut pix = .ok F) {i k : Nat} {v : Byte}
    (hk : k < c.channels) (hv : pix[i]?.bind (fun p => p[k]?) = some v) : frameSlot c F i k = c.encodeByte v := by
  apply List.ext_getElem?
  intro b
  rw [frameSlot, List.getElem?_take]
  split
  case isTrue hb =>
    rw [List.getElem?_drop, Nat.add_assoc, Nat.mul_comm _ c.symbolWidth, Nat.mul_comm i]
    exact frame_getElem?_slot h hk hb hv
  case isFalse hb => exact (List.getElem?_eq_none (by simpa using hb)).symm

/-- Settles O32: each slot's bytes are its encoding, which `decode_channel` inverts. -/
theorem decodeFrameInvertsBuildFrame : Obligations.DecodeFrameInvertsBuildFrame := by
  intro s pixels hs hr hlen hslots
  obtain ⟨hinv, -⟩ := decodeChannelInvertsEncodeByte s hs hr
  rw [lut_eq_buildLut hs hr] at hinv ⊢
  obtain ⟨F, hF⟩ : ∃ F, buildFrame s.csr s.csr.buildLut pixels = .ok F :=
    ⟨_, buildFrame_fit (pixelsFit_iff.mpr ⟨hlen, hslots⟩)⟩
  refine ⟨F, hF, ?_⟩
  rw [decodeFrame, if_pos (frame_length hF), ← hlen]
  refine mapM_range_of_eq_getElem? fun i hi => ?_
  rw [← hslots pixels[i] (List.getElem_mem hi)]
  refine mapM_range_of_eq_getElem? fun k hk => ?_
  have hslot : frameSlot s.csr F i k = s.csr.encodeByte pixels[i][k] :=
    frameSlot_eq_encodeByte hF (hslots _ (List.getElem_mem hi) ▸ hk) (by simp [hi, hk])
  rw [hslot, hinv]

end Sys2Proof.Machine
end

section
/-! The pixel buffer commands (spec 42_led_strip.md R150 to R157): the slots after each write of the buffer, the bytes of
a colour word (R65), and each command case by case. -/

namespace Sys2Proof.Machine

variable {s : State} {i : Index} {d : Word} {j k : Nat}

/-! ## Colour words (R65) -/

theorem slotByte_eq_shift (d : Word) (k : Nat) : slotByte d k = (d >>> (24 - 8 * k)).setWidth 8 := rfl

theorem unpack_getD {c : Nat} (d : Word) (h : k < c) : (unpack c d).getD k 0 = slotByte d k := by
  simp [unpack, h]

theorem unpack_zero (c : Nat) : unpack c 0 = List.replicate c 0 := by
  simp [List.eq_replicate_iff, unpack, slotByte]

/-- Each of the four bytes that `pack` joins lies where `slotByte` reads it. -/
theorem slotByte_pack (p : List Byte) (h : k < 4) : slotByte (pack p) k = p.getD k 0 := by
  simp only [slotByte, pack]
  interval_cases k <;>
    simp (disch := omega) only [BitVec.extractLsb'_append_eq_of_le, BitVec.extractLsb'_append_eq_of_add_le] <;>
    exact BitVec.extractLsb'_eq_self

theorem channels_le_four (c : CsrFile) : c.channels ≤ 4 := by
  rcases channels_cases c with h | h <;> omega

/-! ## Slots -/

theorem slot_of_getElem? {p : List Byte} (h : s.pix[j]? = some p) (k : Nat) : s.slot j k = p.getD k 0 := by
  simp [State.slot, List.getD_eq_getElem?_getD, h]

theorem writePixel_slot_same (d : Word) (hj : j < s.pix.length) (hk : k < s.csr.channels) :
    (s.writePixel j d).slot j k = slotByte d k := by
  rw [slot_of_getElem? (List.getElem?_set_self hj), unpack_getD d hk]

theorem writePixel_slot_other (d : Word) {n : Nat} (h : j ≠ n) (k : Nat) : (s.writePixel n d).slot j k = s.slot j k := by
  simp [State.slot, List.getD_eq_getElem?_getD, List.getElem?_set_ne h.symm]

theorem fillPixels_slot (d : Word) (hj : j < s.csr.numLeds) (hk : k < s.csr.channels) :
    (s.fillPixels d).slot j k = slotByte d k := by
  rw [slot_of_getElem? (List.getElem?_replicate_of_lt hj), unpack_getD d hk]

/-- A slot outside the buffer reads as 0 as well (log entry 10). -/
theorem zeroPixels_slot (s : State) (j k : Nat) : s.zeroPixels.slot j k = 0 := by
  by_cases hj : j < s.csr.numLeds
  · rw [slot_of_getElem? (List.getElem?_replicate_of_lt hj), List.getD_eq_getElem?_getD,
      List.getElem?_getD_replicate_default_eq]
  · simp [State.slot, hj]

theorem fillPixels_zero (s : State) : s.fillPixels 0 = s.zeroPixels := by
  rw [State.fillPixels, unpack_zero, State.zeroPixels]

theorem readPixel_getD (s : State) (j : Nat) (hk : k < s.csr.channels) : (s.readPixel j).getD k 0 = s.slot j k := by
  simp [State.readPixel, hk]

theorem readPixel_getD_past (s : State) (j : Nat) (hk : s.csr.channels ≤ k) : (s.readPixel j).getD k 0 = 0 :=
  List.getD_eq_default _ _ (by simpa [State.readPixel] using hk)

/-! ## The commands, case by case -/

theorem not_ready_of_unconfigured (h : s.phase = .unconfigured) : s.phase ≠ .ready := by simp [h]

theorem execSetPixel_of_not_ready (hr : s.phase ≠ .ready) : execSetPixel i d s = .next (s.failed .notInitialized) :=
  if_neg hr

theorem execSetPixel_of_ge (hr : s.phase = .ready) (h : s.csr.numLeds ≤ i.toNat) :
    execSetPixel i d s = .next (s.failed .rangeError) :=
  (if_pos hr).trans (if_neg (Nat.not_lt.mpr h))

theorem execSetPixel_of_lt (hr : s.phase = .ready) (h : i.toNat < s.csr.numLeds) :
    execSetPixel i d s = .next ((s.writePixel i.toNat d).answered .nothing) :=
  (if_pos hr).trans (if_pos h)

theorem execGetPixel_of_not_ready (hr : s.phase ≠ .ready) : execGetPixel i s = .next (s.failed .notInitialized) :=
  if_neg hr

theorem execGetPixel_of_ge (hr : s.phase = .ready) (h : s.csr.numLeds ≤ i.toNat) :
    execGetPixel i s = .next (s.failed .rangeError) :=
  (if_pos hr).trans (if_neg (Nat.not_lt.mpr h))

theorem execGetPixel_of_lt (hr : s.phase = .ready) (h : i.toNat < s.csr.numLeds) :
    execGetPixel i s = .next (s.answered (.word (pack (s.readPixel i.toNat)))) :=
  (if_pos hr).trans (if_pos h)

theorem execFill_of_not_ready (hr : s.phase ≠ .ready) : execFill d s = .next (s.failed .notInitialized) := if_neg hr

theorem execFill_of_ready (hr : s.phase = .ready) : execFill d s = .next ((s.fillPixels d).answered .nothing) :=
  if_pos hr

theorem execClear_of_not_ready (hr : s.phase ≠ .ready) : execClear s = .next (s.failed .notInitialized) := if_neg hr

theorem execClear_of_ready (hr : s.phase = .ready) : execClear s = .next (s.zeroPixels.answered .nothing) := if_pos hr

/-! ## The statements -/

/-- Settles O38, by the phase and the range of the index; INIT's buffer has N pixels, so pixel i exists to be set. -/
theorem setPixelCommand : Obligations.SetPixelCommand := by
  intro i d s hs
  refine ⟨fun hu => ?unconfigured, fun hr hi => ?tooLarge, fun hr hi => ?written⟩
  case unconfigured => exact execSetPixel_of_not_ready (not_ready_of_unconfigured hu)
  case tooLarge => exact execSetPixel_of_ge hr hi
  case written =>
    have hfit := pixelsFit_of_ready hs hr
    obtain ⟨hlen, -⟩ := pixelsFit_iff.mp hfit
    exact ⟨(s.writePixel i.toNat d).answered .nothing, execSetPixel_of_lt hr hi, rfl,
      fun k hk => (writePixel_slot_same d (hlen.symm ▸ hi) hk).trans (slotByte_eq_shift d k),
      fun j k hj => writePixel_slot_other d hj k, writePixel_keeps_fit i.toNat d hfit⟩

/-- Settles O39: byte k of the word is `pack`'s k-th byte, and with three channels the fourth is past the pixel. -/
theorem getPixelCommand : Obligations.GetPixelCommand := by
  intro i s
  refine ⟨fun hu => ?unconfigured, fun hr hi => ?tooLarge, fun hr hi => ?read⟩
  case unconfigured => exact execGetPixel_of_not_ready (not_ready_of_unconfigured hu)
  case tooLarge => exact execGetPixel_of_ge hr hi
  case read =>
    refine ⟨pack (s.readPixel i.toNat), execGetPixel_of_lt hr hi, fun k hk => ?slot, fun h3 => ?last⟩
    case slot =>
      have hk4 : k < 4 := hk.trans_le (channels_le_four s.csr)
      rw [← slotByte_eq_shift, slotByte_pack _ hk4, readPixel_getD s i.toNat hk]
    case last =>
      have hlast : (pack (s.readPixel i.toNat)).setWidth 8 = slotByte (pack (s.readPixel i.toNat)) 3 := rfl
      rw [hlast, slotByte_pack _ (by decide), readPixel_getD_past s i.toNat h3.le]

/-- Settles O41, by the phase; FILL writes the whole buffer, whatever it held. -/
theorem fillCommand : Obligations.FillCommand := by
  intro d s
  refine ⟨fun hu => ?unconfigured, fun hr => ?filled⟩
  case unconfigured => exact execFill_of_not_ready (not_ready_of_unconfigured hu)
  case filled =>
    exact ⟨(s.fillPixels d).answered .nothing, execFill_of_ready hr, rfl,
      fun j k hj hk => (fillPixels_slot d hj hk).trans (slotByte_eq_shift d k), fillPixels_fit s d⟩

/-- Settles O42, by the phase; for R157, filling with 0 is zeroing. -/
theorem clearCommand : Obligations.ClearCommand := by
  intro s
  refine ⟨fun hu => ?unconfigured, fun hr => ?cleared, ?fill⟩
  case unconfigured => exact execClear_of_not_ready (not_ready_of_unconfigured hu)
  case cleared =>
    exact ⟨s.zeroPixels.answered .nothing, execClear_of_ready hr, rfl, zeroPixels_slot s, zeroPixels_fit s⟩
  case fill =>
    change execFill 0 s = execClear s
    rw [execFill, execClear, fillPixels_zero]

end Sys2Proof.Machine
end

section
/-! RENDER (spec 42_led_strip.md R158 to R162): what the wait's outcome makes of it, and the one `Transmit` call it makes,
which no other command makes. -/

namespace Sys2Proof.Machine

variable {s t : State} {F : List Byte}

/-- R135, R158: a consistent READY block has a frame to hand over, of FRAME_LEN bytes. -/
theorem exists_offer_of_ready (hs : s.Consistent) (hr : s.phase = .ready) :
    ∃ F, s.Offers F ∧ F.length = s.csr.frameLen.toNat := by
  obtain ⟨F, hF, -, hlen, -⟩ := frameLayout s hs hr
  exact ⟨F, ⟨hr, hF⟩, hlen⟩

/-! ## The outcomes of the wait -/

theorem execRender_of_not_ready (hr : s.phase ≠ .ready) : execRender s = .next (s.failed .notInitialized) := if_neg hr

theorem execRender_of_offer (h : s.Offers F) : execRender s = finishRender s.countRender F := by
  rw [execRender, if_pos h.ready, h.builds]

theorem finishRender_of_ok (h : s.nextOutcome = .answered .ok) :
    finishRender s F = .next ((s.transmit F).answered .nothing) := by
  rw [finishRender, h]
  rfl

theorem finishRender_of_fail (h : s.nextOutcome = .answered .fail) :
    finishRender s F = .next ((s.transmit F).failed .transportError) := by
  rw [finishRender, h]
  rfl

theorem finishRender_of_never (h : s.nextOutcome = .never) : finishRender s F = .fault .transportNeverAnswers := by
  rw [finishRender, h]

/-- R33: the 32-bit increment is the count modulo 2^32. -/
theorem word_add_one (w : Word) : w + 1 = BitVec.ofNat 32 ((w.toNat + 1) % 2 ^ 32) := by
  apply BitVec.eq_of_toNat_eq
  simp [BitVec.toNat_add]

/-- Settles O43, by the phase and the transport's answer. -/
theorem renderCommand : Obligations.RenderCommand := by
  intro s hs
  refine ⟨fun hu => ?unconfigured, fun hr => ?ready⟩
  case unconfigured => exact execRender_of_not_ready (not_ready_of_unconfigured hu)
  case ready =>
    obtain ⟨F, hF, -⟩ := exists_offer_of_ready hs hr
    refine ⟨F, hF.builds, fun ho => ?ok, fun ho => ?fail⟩
    all_goals rw [← word_add_one, ← ho]
    case ok => exact (execRender_of_offer hF).trans (finishRender_of_ok ho)
    case fail => exact (execRender_of_offer hF).trans (finishRender_of_fail ho)

/-- Settles O44: the frame is handed over, and the wait is the fault. -/
theorem renderIsStuckWithoutAnswer : Obligations.RenderIsStuckWithoutAnswer := by
  intro s hs hr ho
  obtain ⟨F, hF, -⟩ := exists_offer_of_ready hs hr
  exact (execRender_of_offer hF).trans (finishRender_of_never ho)

/-! ## `Transmit` calls (R159) -/

/-- A RENDER that completes makes one call with the frame offered, however its wait ended. -/
theorem render_transmissions (hF : s.Offers F) (h : exec .render s = .next t) :
    t.transmissions = s.transmissions ++ [⟨s.pix, F, s.csr.clockRate, s.nextOutcome⟩] := by
  rcases execRender_next h with ⟨hn, -⟩ | ⟨-, e, he, -⟩ | ⟨hr, G, hG, ht⟩
  · exact absurd hF.ready hn
  · cases hF.builds.symm.trans he
  · obtain rfl := hF.unique ⟨hr, hG⟩
    rcases ht with ⟨-, rfl⟩ | ⟨-, rfl⟩ | ⟨bits, -, rfl⟩ <;> rfl

/-- The transport's side of the ports is the same in both states. -/
structure State.SameTransport (s t : State) : Prop where
  transmissions : t.transmissions = s.transmissions
  transport : t.transport = s.transport
  draws : t.draws = s.draws

/-- R70: every state that a command other than RENDER can lead to is an update of the block and the responses alone. -/
theorem exec_sameTransport {i : Instr} (hi : i ≠ .render) (h : exec i s = .next t) : s.SameTransport t := by
  cases i with
  | csrWrite n d =>
    rcases execCsrWrite_next h with rfl | ⟨r, -, ⟨-, rfl⟩ | ⟨-, -, rfl⟩ | ⟨-, -, rfl⟩⟩ <;> exact ⟨rfl, rfl, rfl⟩
  | csrRead n => rcases execCsrRead_next h with ⟨-, rfl⟩ | ⟨x, -, rfl⟩ <;> exact ⟨rfl, rfl, rfl⟩
  | init => rcases execInit_next h with ⟨e, -, rfl⟩ | ⟨-, rfl⟩ <;> exact ⟨rfl, rfl, rfl⟩
  | setPixel n d =>
    rcases execSetPixel_next h with ⟨-, rfl⟩ | ⟨-, -, rfl⟩ | ⟨-, -, rfl⟩ <;> exact ⟨rfl, rfl, rfl⟩
  | getPixel n =>
    rcases execGetPixel_next h with ⟨-, rfl⟩ | ⟨-, -, rfl⟩ | ⟨-, -, rfl⟩ <;> exact ⟨rfl, rfl, rfl⟩
  | fill d => rcases execFill_next h with ⟨-, rfl⟩ | ⟨-, rfl⟩ <;> exact ⟨rfl, rfl, rfl⟩
  | clear => rcases execClear_next h with ⟨-, rfl⟩ | ⟨-, rfl⟩ <;> exact ⟨rfl, rfl, rfl⟩
  | encode d =>
    rcases execEncode_next h with ⟨-, rfl⟩ | ⟨-, -, rfl⟩ | ⟨-, v, -, rfl⟩ <;> exact ⟨rfl, rfl, rfl⟩
  | render => exact absurd rfl hi

/-- Settles O47: RENDER hands over the frame that the state offers, and no other command reaches the transport. -/
theorem onlyRenderTransmits : Obligations.OnlyRenderTransmits := by
  intro i s t h
  refine ⟨fun hi => ?other, fun hi hr hs => ?render⟩
  case other =>
    obtain ⟨htransmissions, htransport, hdraws⟩ := exec_sameTransport hi h
    exact ⟨htransmissions, htransport, hdraws⟩
  case render =>
    subst hi
    obtain ⟨F, hF, hlen⟩ := exists_offer_of_ready hs hr
    exact ⟨_, render_transmissions hF h, hF.builds, hlen, rfl, rfl, rfl⟩

end Sys2Proof.Machine
end

section
/-! The register map (spec 43_configuration.md R180 to R183): a configuration register stores the bits of its field and
no others, and CSR_WRITE and CSR_READ case by case. -/

namespace Sys2Proof.Machine

open Sys2Proof.Spec

variable {s : State} {c : CsrFile} {n : Index} {d : Word} {r : ConfigReg}

/-! ## Fields (R181) -/

/-- R21: the width of a configuration register's field, in bits. -/
def ConfigReg.width : ConfigReg → Nat
  | .ledCount | .resetLead | .resetTrail => 24
  | .channelOrder | .symbolBits => 8
  | .pattern0 | .pattern1 | .clockRate | .spiBus | .spiDevice => 32

theorem fieldMask_eq_allOnes (r : ConfigReg) : fieldMask r = (BitVec.allOnes r.width).setWidth 32 := by
  cases r <;> rfl

theorem fieldMask_eq_maskAt (r : ConfigReg) : fieldMask r = maskAt r.number.toNat := by
  cases r <;> rfl

/-- Cutting a word to its low `w` bits is masking it. -/
theorem setWidth_setWidth_eq_and (d : Word) (w : Nat) :
    (d.setWidth w).setWidth 32 = d &&& (BitVec.allOnes w).setWidth 32 := by
  ext j hj
  simp [hj, Bool.and_comm]

theorem and_not_eq_zero_iff {x m : Word} : x &&& ~~~m = 0 ↔ x &&& m = x := by
  constructor
  · intro h
    ext j hj
    have hbit : (x &&& ~~~m)[j] = false := by simp [h]
    simpa using hbit
  · intro h
    rw [← h, BitVec.and_assoc, BitVec.and_not_self]
    exact BitVec.and_zero

/-- A register reads as a value of its field. -/
theorem read_and_fieldMask (c : CsrFile) (r : ConfigReg) : c.read r &&& fieldMask r = c.read r := by
  rw [fieldMask_eq_allOnes, ← setWidth_setWidth_eq_and]
  cases r <;> simp [ConfigReg.width, CsrFile.read]

/-- A write stores the bits of the field. -/
theorem read_write_same (c : CsrFile) (r : ConfigReg) (d : Word) : (c.write r d).read r = d &&& fieldMask r := by
  rw [fieldMask_eq_allOnes, ← setWidth_setWidth_eq_and]
  cases r <;> simp [ConfigReg.width, CsrFile.read, CsrFile.write]

/-- Settles O21: the mask is the field's bits, and a register holds its field alone. -/
theorem bitsOutsideFieldsReadZero : Obligations.BitsOutsideFieldsReadZero := by
  refine ⟨fieldMask_eq_maskAt, fun s r => ?_⟩
  rw [← fieldMask_eq_maskAt, and_not_eq_zero_iff]
  exact read_and_fieldMask s.csr r

/-! ## CSR_WRITE (R180) -/

theorem execCsrWrite_of_gt (h : 9 < n.toNat) : execCsrWrite n d s = .next (s.failed .illegalCommand) := by
  unfold execCsrWrite
  split
  case h_5 r hr => exact absurd hr (csrAt_not_config h r)
  all_goals rfl

theorem execCsrWrite_number : execCsrWrite r.number d s =
    if s.phase = .ready then raise .configLocked s
    else if outsideField r d ≠ 0 then raise .configurationError s
    else respond .nothing (s.writeCsr r d) := by
  rw [execCsrWrite, csrAt_number]

theorem execCsrWrite_of_ready (hr : s.phase = .ready) :
    execCsrWrite r.number d s = .next (s.failed .configLocked) :=
  execCsrWrite_number.trans (if_pos hr)

theorem execCsrWrite_of_outside (hr : s.phase ≠ .ready) (h : outsideField r d ≠ 0) :
    execCsrWrite r.number d s = .next (s.failed .configurationError) :=
  execCsrWrite_number.trans ((if_neg hr).trans (if_pos h))

theorem execCsrWrite_of_inside (hr : s.phase ≠ .ready) (h : outsideField r d = 0) :
    execCsrWrite r.number d s = .next ((s.writeCsr r d).answered .nothing) :=
  execCsrWrite_number.trans ((if_neg hr).trans (if_neg (not_not.mpr h)))

/-- The other registers, the read-only ones among them, read as before a write. -/
theorem readCsr_writeCsr_other {x : Csr} (h : x ≠ .config r) : (s.writeCsr r d).readCsr x = s.readCsr x := by
  cases x with
  | config r' => exact read_write_other s.csr d fun hr => h (hr ▸ rfl)
  | status => simp [State.readCsr]
  | frameLen => simp [State.readCsr]
  | renderCount => simp [State.readCsr]

/-- A register has one number. -/
theorem eq_number_of_csrAt (h : csrAt n = some (.config r)) : n = r.number := by
  rcases csrAt_some h with ⟨r', h', rfl⟩ | ⟨h', -⟩ | ⟨h', -⟩ | ⟨h', -⟩ <;> cases h'
  rfl

/-- Settles O19, by the number, the phase and the bits outside the field. -/
theorem csrWriteCommand : Obligations.CsrWriteCommand := by
  intro n d s
  refine ⟨fun hn => execCsrWrite_of_gt (Nat.not_le.mp hn), fun hn => ?locked, fun hn hu => ?outside,
    fun hn hu => ?stored⟩
  all_goals obtain ⟨r, rfl, hmap⟩ := csrAt_config hn
  case locked => exact execCsrWrite_of_ready
  all_goals
    rw [← fieldMask_eq_maskAt]
    intro hd
  case outside => exact execCsrWrite_of_outside (not_ready_of_unconfigured hu) hd
  case stored =>
    refine ⟨(s.writeCsr r d).answered .nothing, execCsrWrite_of_inside (not_ready_of_unconfigured hu) hd, rfl,
      ⟨.config r, hmap, ?same⟩, fun m x hm hx => ?other⟩
    case same => exact (read_write_same s.csr r d).trans (and_not_eq_zero_iff.mp hd)
    case other => exact readCsr_writeCsr_other fun hr => hm (eq_number_of_csrAt (hr ▸ hx))

/-! ## CSR_READ (R182, R183) -/

theorem readGives_of_csrAt {x : Csr} {w : Word} (hn : csrAt n = some x) (hw : s.readCsr x = w) : readGives s n w := by
  change execCsrRead n s = _
  rw [execCsrRead, hn, ← hw]
  rfl

theorem execCsrRead_of_unmapped (h : csrAt n = none) : execCsrRead n s = .next (s.failed .illegalCommand) := by
  rw [execCsrRead, h]
  rfl

/-- R34: the numbers between the two groups of registers, and above both, are unmapped. -/
theorem csrAt_eq_none (h : (0x0A ≤ n.toNat ∧ n.toNat ≤ 0x0F) ∨ 0x13 ≤ n.toNat) : csrAt n = none := by
  cases hx : csrAt n with
  | none => rfl
  | some x =>
    rcases csrAt_some hx with ⟨r, rfl, -⟩ | ⟨-, rfl⟩ | ⟨-, rfl⟩ | ⟨-, rfl⟩
    · exact absurd hx (csrAt_not_config (by omega) r)
    all_goals exact absurd h (by decide)

/-- R31's layout, as a number: READY is bit 0 and LAST_ERR begins at bit 8. -/
theorem statusWord_eq_ofNat (ph : Phase) (e : StatusCode) :
    statusWord ph e = BitVec.ofNat 32 (e.code.toNat * 256 + if ph = .ready then 1 else 0) := by
  cases ph <;> cases e <;> rfl

theorem unconfigured_of_not_ready (h : s.phase ≠ .ready) : s.phase = .unconfigured := by
  cases hp : s.phase with
  | unconfigured => rfl
  | ready => exact absurd hp h

/-- R32: FRAME_LEN is L in READY and 0 before. -/
theorem frameLen_by_phase (hs : s.Consistent) :
    s.csr.frameLen = if s.phase = .ready then BitVec.ofNat 32 s.csr.frameLength else 0 := by
  split
  case isTrue hr => rw [← frameLen_of_ready hs hr, BitVec.ofNat_toNat, BitVec.setWidth_eq]
  case isFalse hn =>
    obtain ⟨-, -, hlen, -⟩ := hs.1 (unconfigured_of_not_ready hn)
    exact hlen

/-- Settles O20: each mapped number reads its register, and the others are unmapped. -/
theorem csrReadCommand : Obligations.CsrReadCommand := by
  intro s hs
  simp only [BitVec.ofNat_toNat]
  exact ⟨readGives_of_csrAt (csrAt_number .ledCount) rfl, readGives_of_csrAt (csrAt_number .channelOrder) rfl,
    readGives_of_csrAt (csrAt_number .symbolBits) rfl, readGives_of_csrAt (csrAt_number .pattern0) rfl,
    readGives_of_csrAt (csrAt_number .pattern1) rfl, readGives_of_csrAt (csrAt_number .clockRate) rfl,
    readGives_of_csrAt (csrAt_number .resetLead) rfl, readGives_of_csrAt (csrAt_number .resetTrail) rfl,
    readGives_of_csrAt (csrAt_number .spiBus) rfl, readGives_of_csrAt (csrAt_number .spiDevice) rfl,
    readGives_of_csrAt (x := .status) rfl (statusWord_eq_ofNat s.phase s.csr.lastErr),
    readGives_of_csrAt (x := .frameLen) rfl (frameLen_by_phase hs),
    readGives_of_csrAt (x := .renderCount) rfl rfl, fun n hn => execCsrRead_of_unmapped (csrAt_eq_none hn)⟩

end Sys2Proof.Machine
end

section
/-! INIT's checks (spec 43_configuration.md R185 to R188): the list the model runs through is the rules' list, check by
check, and the first that fails decides the error (R214). -/

namespace Sys2Proof.Machine

open Sys2Proof.Spec

variable {s : State}

/-! ## Pattern shapes (R186) -/

/-- The single pulse of h high bits is 2^S - 2^(S-h), so more high bits make a larger number. -/
theorem pulse_lt_pulse {S h h' : Nat} (hlt : h < h') (hle : h' ≤ S) :
    (2 ^ h - 1) * 2 ^ (S - h) < (2 ^ h' - 1) * 2 ^ (S - h') := by
  have pulse_eq : ∀ k ≤ S, (2 ^ k - 1) * 2 ^ (S - k) = 2 ^ S - 2 ^ (S - k) := fun k hk => by
    rw [Nat.sub_mul, Nat.one_mul, ← Nat.pow_add, Nat.add_sub_cancel' hk]
  have hlow : 2 ^ (S - h') < 2 ^ (S - h) := Nat.pow_lt_pow_right (by decide) (by omega)
  have htop : 2 ^ (S - h) ≤ 2 ^ S := Nat.pow_le_pow_right (by decide) (by omega)
  rw [pulse_eq h (by omega), pulse_eq h' hle]
  omega

theorem hasShape_unique {S p h h' : Nat} (hp : hasShape S p h) (hp' : hasShape S p h') : h = h' := by
  obtain ⟨h1, hS, rfl⟩ := hp
  obtain ⟨h1', hS', heq⟩ := hp'
  rcases Nat.lt_trichotomy h h' with hlt | rfl | hlt
  · exact absurd heq (pulse_lt_pulse hlt (by omega)).ne
  · rfl
  · exact absurd heq (pulse_lt_pulse hlt (by omega)).ne'

theorem hasShape_of_shape {S p h : Nat} (hfind : shape S p = some h) : hasShape S p h := by
  unfold shape at hfind
  have hS := List.mem_range.mp (List.mem_of_find?_eq_some hfind)
  obtain ⟨h1, hp⟩ : 1 ≤ h ∧ p = (2 ^ h - 1) * 2 ^ (S - h) := by simpa [Nat.shiftLeft_eq] using List.find?_some hfind
  exact ⟨h1, by omega, hp⟩

/-- The search meets every candidate, and at most one of them is the count of high bits. -/
theorem shape_eq_some_iff {S p h : Nat} : shape S p = some h ↔ hasShape S p h := by
  refine ⟨hasShape_of_shape, fun hp => ?_⟩
  have ⟨h1, hS, heq⟩ := hp
  have hfound : (shape S p).isSome := List.find?_isSome.mpr
    ⟨h, List.mem_range.mpr (by omega), by simpa [h1, Nat.shiftLeft_eq] using heq⟩
  obtain ⟨k, hk⟩ := Option.isSome_iff_exists.mp hfound
  rw [hk, hasShape_unique hp (hasShape_of_shape hk)]

theorem shape_isSome_iff {S p : Nat} : (shape S p).isSome = true ↔ ∃ h, hasShape S p h := by
  simp [Option.isSome_iff_exists, shape_eq_some_iff]

/-! ## The checks -/

/-- R187: the model's windows are the rule's. -/
theorem windowsHold_iff {p : Params} {f S h0 h1 : Nat} : windowsHold p f S h0 h1 = true ↔ windows p f S h0 h1 := by
  simp [windowsHold, inWindow, windows, and_assoc]

theorem patternTimingHolds_iff {p : Params} {c : CsrFile} : patternTimingHolds p c = true ↔
    ∃ h0 h1, hasShape c.symbolWidth c.patternZero h0 ∧ hasShape c.symbolWidth c.patternOne h1
      ∧ windows p c.clockHz c.symbolWidth h0 h1 := by
  simp only [patternTimingHolds, ← shape_eq_some_iff, ← windowsHold_iff]
  cases shape c.symbolWidth c.patternZero <;> cases shape c.symbolWidth c.patternOne <;> simp

theorem decide_and_decide_iff {a b : Prop} [Decidable a] [Decidable b] : (decide a && decide b) = true ↔ a ∧ b := by
  simp

theorem slotColours_isSome_iff {o : BitVec 8} : (slotColours o).isSome = true ↔ o = 0 ∨ o = 1 ∨ o = 2 := by
  simp only [← BitVec.toNat_inj]
  unfold slotColours
  split <;> simp_all

/-- R188: the duration is the same product, grouped in another way. -/
theorem lastsLongEnough_iff {p : Params} {f e : Nat} :
    lastsLongEnough p f e = true ↔ p.tResetMinNs * f ≤ e * 8 * 10 ^ 9 := by
  rw [lastsLongEnough, decide_eq_true_iff, Nat.mul_assoc e]

/-- INIT's checks as the model runs them, check 0 first. -/
def State.initChecks (s : State) : List (Bool × StatusCode) :=
  (s.phase == .unconfigured, .configLocked) :: configChecks s.params s.csr

theorem initFailure_eq_firstFailure (s : State) : initFailure s = firstFailure s.initChecks := rfl

theorem initChecks_length (s : State) : s.initChecks.length = 13 := rfl

/-- R185, check by check: entry k of the list is the rules' check k with its error. -/
theorem initChecks_getElem? (s : State) :
    ∀ k ≤ 12, ∃ b, s.initChecks[k]? = some (b, initCheckError k) ∧ (b = true ↔ initCheck s k)
  | 0, _ => ⟨_, rfl, beq_iff_eq⟩
  | 1, _ => ⟨_, rfl, decide_and_decide_iff⟩
  | 2, _ => ⟨_, rfl, slotColours_isSome_iff⟩
  | 3, _ => ⟨_, rfl, decide_eq_true_iff⟩
  | 4, _ => ⟨_, rfl, decide_and_decide_iff⟩
  | 5, _ => ⟨_, rfl, decide_and_decide_iff⟩
  | 6, _ => ⟨_, rfl, bne_iff_ne⟩
  | 7, _ => ⟨_, rfl, Bool.and_eq_true_iff.trans (and_congr shape_isSome_iff shape_isSome_iff)⟩
  | 8, _ => ⟨_, rfl, patternTimingHolds_iff⟩
  | 9, _ => ⟨_, rfl, decide_eq_true_iff⟩
  | 10, _ => ⟨_, rfl, lastsLongEnough_iff⟩
  | 11, _ => ⟨_, rfl, decide_eq_true_iff⟩
  | 12, _ => ⟨_, rfl, lastsLongEnough_iff⟩
  | k + 13, hk => by omega

/-! ## The first check that fails (R214) -/

theorem firstFailure_of_getElem? {l : List (Bool × StatusCode)} {k : Nat} {e : StatusCode}
    (hk : l[k]? = some (false, e)) (hpass : ∀ j < k, ∃ e', l[j]? = some (true, e')) : firstFailure l = some e := by
  induction l generalizing k with
  | nil => simp at hk
  | cons x l ih =>
    cases k with
    | zero =>
      obtain rfl : x = (false, e) := by simpa using hk
      rfl
    | succ k =>
      obtain ⟨e', he'⟩ := hpass 0 k.succ_pos
      obtain rfl : x = (true, e') := by simpa using he'
      exact ih (by simpa using hk) fun j hj => by simpa using hpass (j + 1) (Nat.succ_lt_succ hj)

theorem initFailure_of_first {k : Nat} (hk : k ≤ 12) (hpass : ∀ j < k, initCheck s j) (hfail : ¬ initCheck s k) :
    initFailure s = some (initCheckError k) := by
  obtain ⟨b, hb, hiff⟩ := initChecks_getElem? s k hk
  obtain rfl : b = false := Bool.eq_false_iff.mpr fun h => hfail (hiff.mp h)
  rw [initFailure_eq_firstFailure]
  refine firstFailure_of_getElem? hb fun j hj => ?_
  obtain ⟨b', hb', hiff'⟩ := initChecks_getElem? s j (hj.le.trans hk)
  exact ⟨_, hiff'.mpr (hpass j hj) ▸ hb'⟩

theorem initFailure_of_all (hpass : ∀ k ≤ 12, initCheck s k) : initFailure s = none := by
  rw [initFailure_eq_firstFailure, firstFailure_none_iff]
  intro x hx
  obtain ⟨k, hx⟩ := List.mem_iff_getElem?.mp hx
  obtain ⟨hlt, -⟩ := List.getElem?_eq_some_iff.mp hx
  rw [initChecks_length] at hlt
  obtain ⟨b, hb, hiff⟩ := initChecks_getElem? s k (by omega)
  obtain rfl := Option.some.inj (hb.symm.trans hx)
  exact hiff.mpr (hpass k (by omega))

end Sys2Proof.Machine
end

section
/-! INIT (spec 43_configuration.md R184, R189): refused by the first failing check, or the configured block. -/

namespace Sys2Proof.Machine

open Sys2Proof.Spec

variable {s : State} {p : Params} {c : CsrFile}

theorem execInit_of_failure {e : StatusCode} (h : initFailure s = some e) : execInit s = .next (s.failed e) := by
  rw [execInit, h]
  rfl

theorem execInit_of_pass (h : initFailure s = none) : execInit s = .next (s.configured.answered .nothing) := by
  rw [execInit, h]
  rfl

/-! ## The configured registers -/

theorem configured_resetLead_toNat (h : effectiveLead p c ≤ 0xFFFFFF) :
    (c.configured p).resetLead.toNat = effectiveLead p c :=
  (BitVec.toNat_ofNat _ _).trans (Nat.mod_eq_of_lt (by omega))

theorem configured_resetTrail_toNat (h : effectiveTrail p c ≤ 0xFFFFFF) :
    (c.configured p).resetTrail.toNat = effectiveTrail p c :=
  (BitVec.toNat_ofNat _ _).trans (Nat.mod_eq_of_lt (by omega))

/-- R43: the active region of the widest configuration. -/
theorem activeBytes_le (h : c.symbolWidth ≤ 32) : c.numLeds * c.channels * c.symbolWidth ≤ 0xFFFFFF * 4 * 32 :=
  Nat.mul_le_mul (Nat.mul_le_mul (Nat.le_of_lt_succ c.ledCount.isLt) (channels_le_four c)) h

/-- R43: the frame length fits its register. -/
theorem configured_frameLen_toNat (hS : c.symbolWidth ≤ 32) (hlead : effectiveLead p c ≤ 0xFFFFFF)
    (htrail : effectiveTrail p c ≤ 0xFFFFFF) :
    (c.configured p).frameLen.toNat
      = effectiveLead p c + c.numLeds * c.channels * c.symbolWidth + effectiveTrail p c := by
  have hactive := activeBytes_le hS
  exact (BitVec.toNat_ofNat _ _).trans (Nat.mod_eq_of_lt (by omega))

/-! ## The LUT -/

@[simp] theorem buildLut_length (c : CsrFile) : c.buildLut.length = 256 := by simp [CsrFile.buildLut]

/-- After check 5 the patterns are their registers' whole values. -/
theorem csrEncodeByte_of_fit (h0 : c.pattern0.toNat < 2 ^ c.symbolWidth) (h1 : c.pattern1.toNat < 2 ^ c.symbolWidth)
    (v : Byte) : c.encodeByte v = encodeByte c.symbolWidth c.pattern0.toNat c.pattern1.toNat v := by
  rw [CsrFile.encodeByte, CsrFile.patternZero, CsrFile.patternOne, Nat.mod_eq_of_lt h0, Nat.mod_eq_of_lt h1]

/-- Settles O22: the first failing check is the error raised, and the checks that hold bound what INIT stores. -/
theorem initCommand : Obligations.InitCommand := by
  intro s
  refine ⟨fun k hk hpass hfail => execInit_of_failure (initFailure_of_first hk hpass hfail), fun hpass => ?_⟩
  obtain ⟨-, hS⟩ := hpass 4 (by decide)
  obtain ⟨h0, h1⟩ := hpass 5 (by decide)
  have hlead : effectiveLead s.params s.csr ≤ 0xFFFFFF := hpass 9 (by decide)
  have htrail : effectiveTrail s.params s.csr ≤ 0xFFFFFF := hpass 11 (by decide)
  refine ⟨s.configured.answered .nothing, execInit_of_pass (initFailure_of_all hpass), rfl, rfl,
    configured_resetLead_toNat hlead, configured_resetTrail_toNat htrail, configured_frameLen_toNat hS hlead htrail,
    buildLut_length s.csr, fun v => ?lut, List.length_replicate, fun px hpx => ?zero⟩
  case lut => exact (lutEntry_buildLut s.csr v).trans (csrEncodeByte_of_fit h0 h1 v)
  case zero =>
    obtain rfl := List.eq_of_mem_replicate hpx
    exact ⟨List.length_replicate, fun b hb => List.eq_of_mem_replicate hb⟩

end Sys2Proof.Machine
end

section
/-! How a command completes (spec 60_exceptions.md R212, R213; 70_reset_and_hazards.md R243): each command's next states
sorted by their response and by what they did before it. -/

namespace Sys2Proof.Machine

open Sys2Proof.Spec

variable {s t : State} {v : Verdict} {w : CmdWord} {e : StatusCode}

/-! ## The errors of the checks (R211) -/

theorem initChecks_errors (s : State) : ∀ x ∈ s.initChecks, x.2 ∈ mayRaise .init := by
  simp [State.initChecks, configChecks, mayRaise]

theorem initFailure_mem_mayRaise (h : initFailure s = some e) : e ∈ mayRaise .init := by
  rw [initFailure_eq_firstFailure] at h
  obtain ⟨before, after, hl, -⟩ := firstFailure_some h
  exact initChecks_errors s (false, e) (by simp [hl])

/-- R134: the one error of a frame's build. -/
theorem buildFrame_error {c : CsrFile} {lut pix : List (List Byte)} (h : buildFrame c lut pix = .error e) :
    e = .configurationError := by
  by_cases hfit : pixelsFit c.numLeds c.channels pix = true
  · cases (buildFrame_fit hfit).symm.trans h
  · cases (buildFrame_unfit hfit).symm.trans h
    rfl

/-! ## The ways to complete -/

/-- What the decoder's verdict `v` on a word can lead to in `s`. A failure of the transport is the only error that comes
after a write (R212), and a RENDER that reset cuts short is the only command with no response (R243). -/
inductive Completes (v : Verdict) (s : State) : State → Prop
  | succeeded {u : State} {d : RData} (hresponses : u.responses = s.responses)
      (hlast : u.csr.lastErr = s.csr.lastErr) : Completes v s (u.answered d)
  | refused {e : StatusCode} (hok : e ≠ .ok) (htransport : e ≠ .transportError) : Completes v s (s.failed e)
  | transportFailed {F : List Byte} (hv : v = .command .render) (hF : s.Offers F)
      (ho : s.nextOutcome = .answered .fail) : Completes v s ((s.countRender.transmit F).failed .transportError)
  | cutShort {F : List Byte} {bits : Nat} (hv : v = .command .render) (hF : s.Offers F)
      (ho : s.nextOutcome = .reset bits) : Completes v s (s.countRender.transmit F).resetBlock

theorem exec_completes {i : Instr} (h : exec i s = .next t) : Completes (.command i) s t := by
  cases i with
  | csrWrite n d =>
    rcases execCsrWrite_next h with rfl | ⟨r, -, ⟨-, rfl⟩ | ⟨-, -, rfl⟩ | ⟨-, -, rfl⟩⟩
    · exact .refused nofun nofun
    · exact .refused nofun nofun
    · exact .refused nofun nofun
    · exact .succeeded rfl (write_lastErr s.csr r d)
  | csrRead n =>
    rcases execCsrRead_next h with ⟨-, rfl⟩ | ⟨x, -, rfl⟩
    · exact .refused nofun nofun
    · exact .succeeded rfl rfl
  | init =>
    rcases execInit_next h with ⟨e, he, rfl⟩ | ⟨-, rfl⟩
    · have hmem := initFailure_mem_mayRaise he
      exact .refused (ne_of_mem_of_not_mem hmem (by decide)) (ne_of_mem_of_not_mem hmem (by decide))
    · exact .succeeded rfl rfl
  | setPixel n d =>
    rcases execSetPixel_next h with ⟨-, rfl⟩ | ⟨-, -, rfl⟩ | ⟨-, -, rfl⟩
    · exact .refused nofun nofun
    · exact .refused nofun nofun
    · exact .succeeded rfl rfl
  | getPixel n =>
    rcases execGetPixel_next h with ⟨-, rfl⟩ | ⟨-, -, rfl⟩ | ⟨-, -, rfl⟩
    · exact .refused nofun nofun
    · exact .refused nofun nofun
    · exact .succeeded rfl rfl
  | fill d =>
    rcases execFill_next h with ⟨-, rfl⟩ | ⟨-, rfl⟩
    · exact .refused nofun nofun
    · exact .succeeded rfl rfl
  | clear =>
    rcases execClear_next h with ⟨-, rfl⟩ | ⟨-, rfl⟩
    · exact .refused nofun nofun
    · exact .succeeded rfl rfl
  | encode d =>
    rcases execEncode_next h with ⟨-, rfl⟩ | ⟨-, -, rfl⟩ | ⟨-, x, -, rfl⟩
    · exact .refused nofun nofun
    · exact .refused nofun nofun
    · exact .succeeded rfl rfl
  | render =>
    rcases execRender_next h with
      ⟨-, rfl⟩ | ⟨-, e, he, rfl⟩ | ⟨hr, F, hF, ⟨-, rfl⟩ | ⟨ho, rfl⟩ | ⟨bits, ho, rfl⟩⟩
    · exact .refused nofun nofun
    · obtain rfl := buildFrame_error he
      exact .refused nofun nofun
    · exact .succeeded rfl rfl
    · exact .transportFailed rfl ⟨hr, hF⟩ ho
    · exact .cutShort rfl ⟨hr, hF⟩ ho

theorem runWord_of_command {i : Instr} (h : decode w = .command i) (s : State) : runWord w s = exec i s := by
  simp only [runWord, h]

theorem runWord_completes (h : runWord w s = .next t) : Completes (decode w) s t := by
  cases hw : decode w with
  | command i => exact exec_completes ((runWord_of_command hw s).symm.trans h)
  | illegal opc =>
    obtain rfl := raise_next ((runWord_of_illegal hw).symm.trans h)
    exact .refused nofun nofun

/-! ## The response of a failing command (R212) -/

/-- Settles O13, by the way the command completed: a refusal is R212's state, and a failed transport has its writes. -/
theorem failingCommandWritesOnlyLastErr : Obligations.FailingCommandWritesOnlyLastErr := by
  intro w s t r h hr hne
  have last_response {r' : Response} (h' : t.responses = s.responses ++ [r']) : r = r' :=
    List.singleton_inj.mp (List.append_cancel_left (hr.symm.trans h'))
  cases runWord_completes h with
  | succeeded hresponses _ =>
    obtain rfl := last_response (congrArg (· ++ _) hresponses)
    exact absurd rfl hne
  | refused _ htransport =>
    obtain rfl := last_response rfl
    refine ⟨rfl, ?_⟩
    rw [if_neg htransport]
    rfl
  | transportFailed hv hF ho =>
    obtain rfl := last_response rfl
    refine ⟨rfl, ?_⟩
    rw [if_pos rfl, ← ho]
    exact ⟨hv, _, hF.builds, rfl⟩
  | cutShort => simp at hr

/-! ## LAST_ERR over a step (R213) -/

theorem finishRender_of_reset {F : List Byte} {bits : Nat} (h : s.nextOutcome = .reset bits) :
    finishRender s F = .next (s.transmit F).resetBlock := by
  rw [finishRender, h]

/-- R240, R243: the reset input, on its own or during a RENDER, ends in the reset of the block, with no response. -/
theorem step_of_stepResets (hs : s.StepResets) (h : step s = .next t) :
    ∃ u : State, t = u.resetBlock ∧ u.responses = s.responses := by
  rcases hs with hhead | ⟨⟨w, hhead, hw⟩, hr, hfit, bits, ho⟩
  · obtain ⟨rest, hhost⟩ := List.head?_eq_some_iff.mp hhead
    rw [step_event hhost] at h
    injection h with h
    exact ⟨_, h.symm, rfl⟩
  · obtain ⟨rest, hhost⟩ := List.head?_eq_some_iff.mp hhead
    have hF : State.Offers { s with host := rest } _ := ⟨hr, buildFrame_fit hfit⟩
    have hend := ((runWord_of_command hw _).trans (execRender_of_offer hF)).trans (finishRender_of_reset ho)
    rw [step_event hhost] at h
    injection hend.symm.trans h with h
    exact ⟨_, h.symm, rfl⟩

/-- A RENDER that reset cuts short is a step that resets (R243). -/
theorem stepResets_of_cutShort {F : List Byte} {bits : Nat} (hhead : s.host.head? = some (.command w))
    (hw : decode w = .command .render) (hF : s.Offers F) (ho : s.nextOutcome = .reset bits) : s.StepResets := by
  obtain ⟨hfit, -⟩ := buildFrame_ok hF.builds
  exact .inr ⟨⟨w, hhead, hw⟩, hF.ready, hfit, bits, ho⟩

/-- R82, R213: a command that no reset cuts short gives one response, and LAST_ERR follows its status. -/
theorem step_of_not_stepResets (hs : ¬ s.StepResets) (hhost : s.host ≠ []) (h : step s = .next t) :
    ∃ r : Response, t.responses = s.responses ++ [r]
      ∧ t.csr.lastErr = if r.stat = .ok then s.csr.lastErr else r.stat := by
  obtain ⟨e, rest, hhost⟩ := List.exists_cons_of_ne_nil hhost
  have hhead : s.host.head? = some e := by rw [hhost]; rfl
  rw [step_event hhost] at h
  cases e with
  | reset => exact absurd (.inl hhead) hs
  | command w =>
    cases runWord_completes h with
    | succeeded hresponses hlast => exact ⟨_, congrArg (· ++ _) hresponses, hlast⟩
    | refused hok _ => exact ⟨_, rfl, (if_neg hok).symm⟩
    | transportFailed _ _ _ => exact ⟨_, rfl, rfl⟩
    | cutShort hw hF ho => exact absurd (stepResets_of_cutShort hhead hw ⟨hF.ready, hF.builds⟩ ho) hs

/-- Settles O15, by whether the step resets and whether the host has sent anything. -/
theorem lastErrIsSticky : Obligations.LastErrIsSticky := by
  intro s t h
  refine ⟨fun hs => ?reset, fun _ hidle => ?idle, fun hs hhost => step_of_not_stepResets hs hhost h⟩
  case reset =>
    obtain ⟨u, rfl, hresponses⟩ := step_of_stepResets hs h
    exact ⟨rfl, hresponses⟩
  case idle =>
    rw [step_idle hidle] at h
    injection h with h
    exact h.symm

end Sys2Proof.Machine
end

section
/-! Decoding and encoding as inverses up to the ignored fields (spec 30_encoding.md R83, R87, R93), the word of a
command as a number, and the assembler's core forms (R91). -/

namespace Sys2Proof

/-! ## Decode and encode -/

/-- Command by command, the decoder reads back the opcode and the fields that the encoder packed (`opcOf_packCmd`,
`idxOf_packCmd`, `dataOf_packCmd`). -/
theorem decode_encode (i : Instr) : decode (encode i) = .command i := by
  cases i <;> simp [encode, decode]

/-- Settles O2: decoding reads the fields of a packed word. -/
theorem decodeOfEncodeIsIdentity : Obligations.DecodeOfEncodeIsIdentity := decode_encode

/-- R89, R91: the command a word decodes to has the word's opcode and the fields that opcode uses. -/
theorem encode_of_decode {w : CmdWord} {i : Instr} (h : decode w = .command i) : encode i = clearIgnored w := by
  unfold decode at h
  split at h
  case h_10 => cases h
  all_goals
    rename_i hopc
    cases h
    have hw : opcOf w = BitVec.ofNat 8 (opcOf w).toNat := by simp
    rw [hopc] at hw
    rw [clearIgnored, hw]
    rfl

/-- Settles O3, by the opcode. -/
theorem encodeOfDecodeClearsIgnoredFields : Obligations.EncodeOfDecodeClearsIgnoredFields :=
  fun _ _ => encode_of_decode

/-- Settles O1, word by word. -/
theorem specWordsDecode : Obligations.SpecWordsDecode := by
  unfold Obligations.SpecWordsDecode
  decide

end Sys2Proof

namespace Sys2Proof.Machine

variable {opc : BitVec 8} {idx data : Nat}

/-! ## Words as numbers -/

/-- R80: OPC begins at bit 56 and IDX at bit 32, and the fields do not overlap. -/
theorem packCmd_toNat (opc : BitVec 8) (i : Index) (d : Word) :
    (packCmd opc i d).toNat = opc.toNat * 2 ^ 56 + i.toNat * 2 ^ 32 + d.toNat := by
  rw [packCmd, BitVec.toNat_append, shiftLeft_or_eq_add d.isLt, BitVec.toNat_append, shiftLeft_or_eq_add i.isLt,
    Nat.add_mul, Nat.mul_assoc, ← Nat.pow_add]

theorem packCmd_eq_ofNat {i : Index} {d : Word} (hi : i.toNat = idx) (hd : d.toNat = data) :
    packCmd opc i d = BitVec.ofNat 64 (opc.toNat * 2 ^ 56 + idx * 2 ^ 32 + data) := by
  rw [← hi, ← hd, ← packCmd_toNat, BitVec.ofNat_toNat, BitVec.setWidth_eq]

theorem toNat_ofNat_of_lt {n w : Nat} (h : n < 2 ^ w) : (BitVec.ofNat w n).toNat = n := by
  rw [BitVec.toNat_ofNat, Nat.mod_eq_of_lt h]

theorem packCmd_ofNat (hidx : idx < 2 ^ 24) (hdata : data < 2 ^ 32) :
    packCmd opc (BitVec.ofNat 24 idx) (BitVec.ofNat 32 data)
      = BitVec.ofNat 64 (opc.toNat * 2 ^ 56 + idx * 2 ^ 32 + data) :=
  packCmd_eq_ofNat (toNat_ofNat_of_lt hidx) (toNat_ofNat_of_lt hdata)

theorem packCmd_ofNat_zero (hidx : idx < 2 ^ 24) :
    packCmd opc (BitVec.ofNat 24 idx) 0 = BitVec.ofNat 64 (opc.toNat * 2 ^ 56 + idx * 2 ^ 32) := by
  rw [packCmd_eq_ofNat (data := 0) (toNat_ofNat_of_lt hidx) rfl, Nat.add_zero]

theorem packCmd_zero_ofNat (hdata : data < 2 ^ 32) :
    packCmd opc 0 (BitVec.ofNat 32 data) = BitVec.ofNat 64 (opc.toNat * 2 ^ 56 + data) := by
  rw [packCmd_eq_ofNat (idx := 0) rfl (toNat_ofNat_of_lt hdata), Nat.zero_mul, Nat.add_zero]

/-- Settles O52: the operands that fit are packed as written, and an ignored field is 0. -/
theorem assembledWords : Obligations.AssembledWords := by
  refine ⟨fun csr imm hcsr himm => ?csrw, fun csr hcsr => ?csrr, rfl, fun idx color hidx hcolor => ?setpix,
    fun idx hidx => ?getpix, fun color hcolor => ?fill, rfl, fun imm himm => ?encode, rfl⟩
  case csrw =>
    rw [AsmForm.words, AsmForm.expand, asmIndex_of_lt hcsr, asmData_of_lt himm]
    exact congrArg (fun w => some [w]) (packCmd_ofNat hcsr himm)
  case csrr =>
    rw [AsmForm.words, AsmForm.expand, asmIndex_of_lt hcsr]
    exact congrArg (fun w => some [w]) (packCmd_ofNat_zero hcsr)
  case setpix =>
    rw [AsmForm.words, AsmForm.expand, asmIndex_of_lt hidx, asmData_of_lt hcolor]
    exact congrArg (fun w => some [w]) (packCmd_ofNat hidx hcolor)
  case getpix =>
    rw [AsmForm.words, AsmForm.expand, asmIndex_of_lt hidx]
    exact congrArg (fun w => some [w]) (packCmd_ofNat_zero hidx)
  case fill =>
    rw [AsmForm.words, AsmForm.expand, asmData_of_lt hcolor]
    exact congrArg (fun w => some [w]) (packCmd_zero_ofNat hcolor)
  case encode =>
    rw [AsmForm.words, AsmForm.expand, asmData_of_lt himm]
    exact congrArg (fun w => some [w]) (packCmd_zero_ofNat himm)

end Sys2Proof.Machine
end

section
/-! Facts of the configuration's numbers: STATUS (spec 10_state.md R31), FRAME_LEN's bound (R43), the shape of a pattern
(43_configuration.md R186), the AUTO reset count (R188) and the reset configuration (R191). -/

namespace Sys2Proof.Machine

open Sys2Proof.Spec

/-- Settles O17: STATUS as a number is LAST_ERR's code times 256, plus the READY bit. -/
theorem statusRegisterFields : Obligations.StatusRegisterFields := by
  refine ⟨fun s => ?_, by decide⟩
  have hcode : s.csr.lastErr.code.toNat < 2 ^ 8 := s.csr.lastErr.code.isLt
  have hstatus : (s.readCsr .status).toNat = s.csr.lastErr.code.toNat * 256 + if s.phase = .ready then 1 else 0 := by
    rw [State.readCsr, statusWord_eq_ofNat]
    exact toNat_ofNat_of_lt (by split <;> omega)
  rw [hstatus]
  split
  case isTrue hr => exact ⟨iff_of_true (by omega) hr, by omega, by omega, by omega⟩
  case isFalse hn => exact ⟨iff_of_false (by omega) hn, by omega, by omega, by omega⟩

/-- Settles O23: multiplying by a power of two is shifting. -/
theorem shapeIsTheSinglePulse : Obligations.ShapeIsTheSinglePulse := by
  intro S p h
  rw [Nat.shiftLeft_eq]
  exact shape_eq_some_iff

/-- Settles O24: a rounded-up quotient is the least number whose product reaches the dividend. -/
theorem autoCountIsTheLeastLongEnough : Obligations.AutoCountIsTheLeastLongEnough := by
  intro p f k
  have hneeded : neededBytes p f = p.tResetMinNs * f ⌈/⌉ (8 * 10 ^ 9) := (Nat.ceilDiv_eq_add_pred_div _ _).symm
  rw [hneeded, ceilDiv_le_iff_le_mul (by decide), Nat.mul_comm k]

/-- Settles O26, by the bounds of the fields. -/
theorem frameLengthFitsItsRegister : Obligations.FrameLengthFitsItsRegister := by
  intro c hS
  have hactive := activeBytes_le hS
  have hlead : c.leadBytes < 2 ^ 24 := c.resetLead.isLt
  have htrail : c.trailBytes < 2 ^ 24 := c.resetTrail.isLt
  rw [CsrFile.frameLength]
  omega

/-! ## The reset configuration (R191) -/

/-- R7's defaults, with this MAX_LED_COUNT. -/
def defaultParams (m : Nat) : Params := { Params.default with maxLedCount := m }

/-- R44's registers, but for LED_COUNT and LAST_ERR. -/
def resetRegisters (n : BitVec 24) (e : StatusCode) : CsrFile := { CsrFile.reset with ledCount := n, lastErr := e }

variable {m : Nat} {n : BitVec 24} {e : StatusCode}

/-- AUTO for RESET_LEAD: neither LED_COUNT nor MAX_LED_COUNT is read. -/
theorem effectiveLead_resetRegisters : effectiveLead (defaultParams m) (resetRegisters n e) = 224 :=
  have h : effectiveLead Params.default CsrFile.reset = 224 := by decide
  h

theorem effectiveTrail_resetRegisters : effectiveTrail (defaultParams m) (resetRegisters n e) = 224 :=
  effectiveLead_resetRegisters (m := m) (n := n) (e := e)

/-- Only check 1 reads LED_COUNT or MAX_LED_COUNT, and none reads LAST_ERR: the other checks compute. -/
theorem configChecks_resetRegisters (h1 : 1 ≤ n.toNat) (hm : n.toNat ≤ m) :
    firstFailure (configChecks (defaultParams m) (resetRegisters n e)) = none := by
  have hrest : firstFailure (configChecks Params.default CsrFile.reset).tail = none := by decide
  have hleds : (decide (1 ≤ n.toNat) && decide (n.toNat ≤ m)) = true := decide_and_decide_iff.mpr ⟨h1, hm⟩
  exact (if_pos hleds).trans hrest

theorem configured_frameLen_resetRegisters :
    ((resetRegisters n e).configured (defaultParams m)).frameLen.toNat = 448 + 24 * n.toNat := by
  have hlead := effectiveLead_resetRegisters (m := m) (n := n) (e := e)
  have htrail := effectiveTrail_resetRegisters (m := m) (n := n) (e := e)
  have hslots : (resetRegisters n e).numLeds * (resetRegisters n e).channels * (resetRegisters n e).symbolWidth
      = n.toNat * 3 * 8 := rfl
  have hS : (resetRegisters n e).symbolWidth ≤ 32 := show (8 : Nat) ≤ 32 by decide
  rw [configured_frameLen_toNat hS (by omega) (by omega), hlead, htrail, hslots]
  omega

/-- Settles O25: INIT's checks pass, and AUTO gives 224 bytes in each region. -/
theorem resetConfigurationIsValid : Obligations.ResetConfigurationIsValid := by
  intro s m n h1 hm hparams hphase hcsr
  have hpass : initFailure s = none := by
    rw [initFailure_none_iff, hparams, hcsr]
    exact ⟨hphase, configChecks_resetRegisters h1 hm⟩
  have hconfigured : s.configured.csr = (resetRegisters n s.csr.lastErr).configured (defaultParams m) := by
    rw [State.configured_csr, hparams]
    exact congrArg _ hcsr
  refine ⟨by decide, by decide, s.configured.answered .nothing, execInit_of_pass hpass, rfl, ?lead, ?trail, ?len⟩
  all_goals rw [State.answered_csr, hconfigured]
  case lead => exact congrArg (BitVec.ofNat 24) effectiveLead_resetRegisters
  case trail => exact congrArg (BitVec.ofNat 24) effectiveTrail_resetRegisters
  case len => exact configured_frameLen_resetRegisters

end Sys2Proof.Machine
end

section
/-! What INIT's checks give a consistent READY block (spec 43_configuration.md R185 to R188), and what follows on the
wire: both reset regions are low and long enough (41_frame_builder.md R136), and the active region is a train of pulses
in their windows (40_bit_encoder.md R118, R139). -/

namespace Sys2Proof.Machine

open Sys2Proof.Spec

variable {s : State} {S p h : Nat}

/-! ## The checks of a locked configuration -/

/-- A configuration that passes the model's checks 1 to 10 meets each of the rules'. -/
theorem initCheck_of_configChecks (h : firstFailure (configChecks s.params s.csr) = none) {k : Nat} (h1 : 1 ≤ k)
    (hk : k ≤ 12) : initCheck s k := by
  obtain ⟨b, hb, hiff⟩ := initChecks_getElem? s k hk
  obtain ⟨j, rfl⟩ : ∃ j, k = j + 1 := ⟨k - 1, by omega⟩
  rw [State.initChecks, List.getElem?_cons_succ] at hb
  exact hiff.mp (firstFailure_none_iff.mp h _ (List.mem_of_getElem? hb))

theorem initCheck_of_ready (hs : s.Consistent) (hr : s.phase = .ready) {k : Nat} (h1 : 1 ≤ k) (hk : k ≤ 12) :
    initCheck s k := by
  obtain ⟨hchecks, -⟩ := hs.2 hr
  exact initCheck_of_configChecks hchecks h1 hk

theorem one_le_clockHz (hs : s.Consistent) (hr : s.phase = .ready) : 1 ≤ s.csr.clockHz :=
  initCheck_of_ready hs hr (k := 3) (by decide) (by decide)

/-- R188, check 10 for RESET_LEAD. -/
theorem lead_lasts (hs : s.Consistent) (hr : s.phase = .ready) :
    s.params.tResetMinNs * s.csr.clockHz ≤ 8 * s.csr.leadBytes * 10 ^ 9 := by
  have hcheck : s.params.tResetMinNs * s.csr.clockHz ≤ effectiveLead s.params s.csr * 8 * 10 ^ 9 :=
    initCheck_of_ready hs hr (k := 10) (by decide) (by decide)
  obtain ⟨-, -, -, -, hlead, -⟩ := hs.2 hr
  rwa [Nat.mul_comm 8, hlead]

/-- R188, check 10 for RESET_TRAIL. -/
theorem trail_lasts (hs : s.Consistent) (hr : s.phase = .ready) :
    s.params.tResetMinNs * s.csr.clockHz ≤ 8 * s.csr.trailBytes * 10 ^ 9 := by
  have hcheck : s.params.tResetMinNs * s.csr.clockHz ≤ effectiveTrail s.params s.csr * 8 * 10 ^ 9 :=
    initCheck_of_ready hs hr (k := 12) (by decide) (by decide)
  obtain ⟨-, -, -, -, -, htrail⟩ := hs.2 hr
  rwa [Nat.mul_comm 8, htrail]

/-! ## The reset regions (R136) -/

/-- The bits of a byte that is 0 are low. -/
theorem wireBits_low {F : List Byte} {j : Nat} (h : F[j / 8]? = some 0) : (wireBits F)[j]? = some false := by
  rw [wireBits_getElem?, h]
  simp

/-- Settles O34: the two regions are zero bytes, whose bits are low, and INIT's check 10 makes each long enough. -/
theorem resetRegionsAreLowAndLongEnough : Obligations.ResetRegionsAreLowAndLongEnough := by
  intro s F hs hr hF
  have hlen : F.length - s.csr.trailBytes = s.csr.leadBytes + (activeRegion s.lut s.pix).length := by
    obtain ⟨-, rfl⟩ := buildFrame_ok hF
    rw [List.length_append, List.length_append, zeros_length, zeros_length, Nat.add_sub_cancel]
  have hlead : ∀ p < s.csr.leadBytes, F[p]? = some 0 := fun p hp => frame_getElem?_lead hF hp
  have htrail : ∀ p, F.length - s.csr.trailBytes ≤ p → p < F.length → F[p]? = some 0 :=
    fun p hpast hp => frame_getElem?_trail hF hp (hlen ▸ hpast)
  refine ⟨fun p hp => hp.elim (hlead p) fun ⟨hpast, hp⟩ => htrail p hpast hp,
    fun j hj => wireBits_low (hlead _ (by omega)), fun j hpast hj => wireBits_low (htrail _ (by omega) (by omega)),
    lead_lasts hs hr, trail_lasts hs hr, fun hpos => ?_⟩
  have hproduct : 0 < s.params.tResetMinNs * s.csr.clockHz := Nat.mul_pos hpos (one_le_clockHz hs hr)
  have hleadLasts := lead_lasts hs hr
  have htrailLasts := trail_lasts hs hr
  omega

/-! ## Symbols as pulses (R139, R186) -/

/-- `h` high bits, then low bits, `S` in all. -/
def pulse (S h : Nat) : List Bool := List.replicate h true ++ List.replicate (S - h) false

theorem pulse_getElem? {j : Nat} (hh : h ≤ S) (hj : j < S) : (pulse S h)[j]? = some (decide (j < h)) := by
  rw [pulse]
  by_cases hlt : j < h
  · rw [List.getElem?_append_left (by simpa using hlt), List.getElem?_replicate_of_lt hlt, decide_eq_true hlt]
  · rw [List.getElem?_append_right (by simpa using hlt), List.length_replicate,
      List.getElem?_replicate_of_lt (by omega), decide_eq_false hlt]

theorem pulse_length (hh : h ≤ S) : (pulse S h).length = S := by
  rw [pulse, List.length_append, List.length_replicate, List.length_replicate, Nat.add_sub_cancel' hh]

/-- R186: the bits of a pattern with shape h are a pulse of h high bits. -/
theorem patternBits_of_hasShape (hp : hasShape S p h) : patternBits S p = pulse S h := by
  obtain ⟨h1, hS, rfl⟩ := hp
  refine List.ext_getElem? fun j => ?_
  by_cases hj : j < S
  · have hbit : ((2 ^ h - 1) * 2 ^ (S - h)).testBit (S - 1 - j) = decide (j < h) := by
      rw [Nat.testBit_mul_two_pow, Nat.testBit_two_pow_sub_one, ← Bool.decide_and, decide_eq_decide]
      omega
    rw [pulse_getElem? (by omega) hj, ← hbit]
    simp [patternBits, hj]
  · rw [List.getElem?_eq_none (by simpa [patternBits] using hj),
      List.getElem?_eq_none (by rw [pulse_length (by omega)]; omega)]

/-- The high bits of the symbol of each LED bit, in their windows (R187). -/
structure CsrFile.Pulses (p : Params) (c : CsrFile) (h0 h1 : Nat) : Prop where
  zero : hasShape c.symbolWidth c.patternZero h0
  one : hasShape c.symbolWidth c.patternOne h1
  timed : windows p c.clockHz c.symbolWidth h0 h1

/-- R185's check 8. -/
theorem exists_pulses (hs : s.Consistent) (hr : s.phase = .ready) : ∃ h0 h1, s.csr.Pulses s.params h0 h1 := by
  obtain ⟨h0, h1, hzero, hone, htimed⟩ := initCheck_of_ready hs hr (k := 8) (by decide) (by decide)
  exact ⟨h0, h1, hzero, hone, htimed⟩

/-- Settles O36, by the shapes and windows of INIT's check 8. -/
theorem ledBitsMeetTheirWindows : Obligations.LedBitsMeetTheirWindows := by
  intro s hs hr
  obtain ⟨h0, h1, hpulses⟩ := exists_pulses hs hr
  obtain ⟨hlow0, hhigh0, -⟩ := hpulses.zero
  obtain ⟨hlow1, hhigh1, -⟩ := hpulses.one
  exact ⟨h0, h1, patternBits_of_hasShape hpulses.zero, patternBits_of_hasShape hpulses.one, ⟨hlow0, by omega⟩,
    ⟨hlow1, by omega⟩, hpulses.timed⟩

/-! ## The active region (R118) -/

/-- The LED bits of a pixel buffer in strip order. -/
def stripBits (pix : List (List Byte)) : List Bool := pix.flatten.flatMap ledBits

theorem stripBits_length {n c : Nat} {pix : List (List Byte)} (hfit : pixelsFit n c pix = true) :
    (stripBits pix).length = 8 * (n * c) := by
  obtain ⟨hlen, hslots⟩ := pixelsFit_iff.mp hfit
  have hflat : pix.flatten.length = n * c := by
    rw [List.length_flatten, List.map_congr_left hslots, List.map_const', List.sum_replicate, hlen, smul_eq_mul]
  rw [stripBits, List.length_flatMap, funext ledBits_length, List.map_const', List.sum_replicate, hflat, smul_eq_mul,
    Nat.mul_comm]

/-- R138: the wire bits of the active region are the symbols of the LED bits, one after another. -/
theorem wireBits_activeRegion (c : CsrFile) (pix : List (List Byte)) :
    wireBits (activeRegion c.buildLut pix)
      = (stripBits pix).flatMap (symbol c.symbolWidth c.patternZero c.patternOne) := by
  rw [activeRegion_buildLut, wireBits, List.flatMap_assoc, stripBits, List.flatMap_assoc]
  exact congrArg (fun f => List.flatMap f _) (funext fun v => wireBits_encodeByte _ _ _ v)

/-- The high bits of the symbol of LED bit q of the strip, where the patterns have the shapes h0 and h1. -/
def stripHigh (h0 h1 : Nat) (pix : List (List Byte)) (q : Nat) : Nat := if (stripBits pix).getD q false then h1 else h0

theorem stripHigh_cases (h0 h1 : Nat) (pix : List (List Byte)) (q : Nat) :
    stripHigh h0 h1 pix q = h0 ∨ stripHigh h0 h1 pix q = h1 := by
  unfold stripHigh
  split
  · exact .inr rfl
  · exact .inl rfl

/-- R118: on the wire, LED bit q is a pulse of S bits. -/
theorem activeRegion_bit {c : CsrFile} {params : Params} {h0 h1 : Nat} (hpulses : c.Pulses params h0 h1)
    {pix : List (List Byte)} {q j : Nat} (hq : q < (stripBits pix).length) (hj : j < c.symbolWidth) :
    (wireBits (activeRegion c.buildLut pix))[c.symbolWidth * q + j]? = some (decide (j < stripHigh h0 h1 pix q)) := by
  obtain ⟨-, hhigh0, -⟩ := hpulses.zero
  obtain ⟨-, hhigh1, -⟩ := hpulses.one
  rw [wireBits_activeRegion, getElem?_flatMap_of_length_eq (symbol_length _ _ _) _ _ hj, stripHigh,
    List.getD_eq_getElem?_getD, List.getElem?_eq_getElem hq, Option.bind_some, Option.getD_some, symbol]
  cases (stripBits pix)[q] with
  | false => exact patternBits_of_hasShape hpulses.zero ▸ pulse_getElem? (by omega) hj
  | true => exact patternBits_of_hasShape hpulses.one ▸ pulse_getElem? (by omega) hj

theorem run_getElem? {α : Type} {w before after : List α} {a : α} {n i : Nat}
    (hrun : w = before ++ List.replicate n a ++ after) (hi : i < n) : w[before.length + i]? = some a := by
  rw [hrun, List.append_assoc, List.getElem?_append_right (by omega), Nat.add_sub_cancel_left,
    List.getElem?_append_left (by simpa using hi), List.getElem?_replicate_of_lt hi]

/-- A run of low bits in a train of pulses ends before the next pulse starts. -/
theorem low_run_le {w : List Bool} {S Q : Nat} {high : Nat → Nat} (hpos : ∀ q < Q, 1 ≤ high q)
    (hw : ∀ q < Q, ∀ j < S, w[S * q + j]? = some (decide (j < high q))) (hlen : w.length = S * Q)
    {before after : List Bool} {n : Nat} (hrun : w = before ++ List.replicate n false ++ after) (hn : 0 < n) :
    ∃ q < Q, n ≤ S - high q := by
  have hlow : ∀ i < n, w[before.length + i]? = some false := fun i hi => run_getElem? hrun hi
  have hend : before.length + n ≤ S * Q := by
    rw [← hlen, hrun]
    simp
  obtain ⟨q, r, hqr⟩ : ∃ q r, before.length = S * q + r ∧ r < S :=
    ⟨_, _, (Nat.div_add_mod _ S).symm, Nat.mod_lt _ (Nat.pos_of_ne_zero fun h0 => by simp [h0] at hend; omega)⟩
  obtain ⟨hstart, hr⟩ := hqr
  have hq : q < Q := Nat.lt_of_mul_lt_mul_left (a := S) (by omega)
  have hfirst : ¬ r < high q := by
    have h := hlow 0 hn
    rw [Nat.add_zero, hstart, hw q hq r hr] at h
    simpa using h
  refine ⟨q, hq, ?_⟩
  by_contra hlong
  have hnext : S * (q + 1) < S * Q := by rw [Nat.mul_succ]; omega
  have hq' : q + 1 < Q := Nat.lt_of_mul_lt_mul_left hnext
  have hstart' : before.length + (S - r) = S * (q + 1) + 0 := by rw [Nat.mul_succ]; omega
  have h := hlow (S - r) (by omega)
  rw [hstart', hw (q + 1) hq' 0 (by omega)] at h
  exact absurd (hpos (q + 1) hq') (by simpa using h)

/-- R187: a low part of either symbol lasts at most the larger of the two upper bounds. -/
theorem low_part_lasts {params : Params} {f S h0 h1 n : Nat} (hw : windows params f S h0 h1)
    (hn : n ≤ max (S - h0) (S - h1)) : n * 10 ^ 9 ≤ max params.t0lMaxNs params.t1lMaxNs * f := by
  obtain ⟨-, ⟨-, ht0l⟩, -, -, ht1l⟩ := hw
  calc n * 10 ^ 9 ≤ max (S - h0) (S - h1) * 10 ^ 9 := Nat.mul_le_mul_right _ hn
    _ = max ((S - h0) * 10 ^ 9) ((S - h1) * 10 ^ 9) := (Nat.mul_max_mul_right ..).symm
    _ ≤ max (params.t0lMaxNs * f) (params.t1lMaxNs * f) := max_le_max ht0l ht1l
    _ = max params.t0lMaxNs params.t1lMaxNs * f := Nat.mul_max_mul_right ..

/-- Settles O37: the wire bits are one pulse per LED bit, so a low run lies between two high starts, and check 8 bounds
the low part of each pulse. -/
theorem activeRegionIsATrainOfPulses : Obligations.ActiveRegionIsATrainOfPulses := by
  intro s hs hr S w
  obtain ⟨h0, h1, hpulses⟩ := exists_pulses hs hr
  obtain ⟨hlow0, hhigh0, -⟩ := hpulses.zero
  obtain ⟨hlow1, hhigh1, -⟩ := hpulses.one
  have hfit := pixelsFit_of_ready hs hr
  have hbits := stripBits_length hfit
  have hhigh : ∀ q, 1 ≤ stripHigh h0 h1 s.pix q ∧ stripHigh h0 h1 s.pix q ≤ S - 1
      ∧ S - stripHigh h0 h1 s.pix q ≤ max (S - h0) (S - h1) := fun q => by
    rcases stripHigh_cases h0 h1 s.pix q with h | h <;> rw [h]
    · exact ⟨hlow0, hhigh0, le_max_left _ _⟩
    · exact ⟨hlow1, hhigh1, le_max_right _ _⟩
  have hw : ∀ q < 8 * (s.csr.numLeds * s.csr.channels), ∀ j < S,
      w[S * q + j]? = some (decide (j < stripHigh h0 h1 s.pix q)) := fun q hq j hj => by
    have hbit := activeRegion_bit hpulses (hbits ▸ hq) hj
    rwa [← lut_eq_buildLut hs hr] at hbit
  have hlen : w.length = S * (8 * (s.csr.numLeds * s.csr.channels)) := by
    rw [wireBits_length, lut_eq_buildLut hs hr, activeRegion_length hfit, Nat.mul_comm S, Nat.mul_assoc 8]
  refine ⟨hlen, fun q hq => ?pulse, fun before after n hrun => ?run⟩
  case pulse =>
    obtain ⟨hstart, hend, -⟩ := hhigh q
    refine ⟨(hw q hq 0 (by omega)).trans ?_, (hw q hq (S - 1) (by omega)).trans ?_, fun j hj hhi => ?_⟩
    · rw [decide_eq_true (Nat.pos_of_ne_zero (by omega))]
    · rw [decide_eq_false (by omega)]
    · rw [Nat.add_assoc, hw q hq _ hj] at hhi
      rw [hw q hq j (by omega), decide_eq_true (by simp at hhi; omega)]
  case run =>
    have hn : n ≤ max (S - h0) (S - h1) := by
      rcases Nat.eq_zero_or_pos n with rfl | hn
      · exact Nat.zero_le _
      · obtain ⟨q, -, hle⟩ := low_run_le (fun q _ => (hhigh q).1) hw hlen hrun hn
        obtain ⟨-, -, hmax⟩ := hhigh q
        exact hle.trans hmax
    exact ⟨⟨h0, h1, hpulses.zero, hpulses.one, hn⟩, low_part_lasts hpulses.timed hn⟩

end Sys2Proof.Machine
end

section
/-! What a command does to the block in each phase (spec 10_state.md R20): in READY it keeps the locked configuration,
in UNCONFIGURED it builds nothing, but for a successful INIT and a RENDER that reset cuts short. -/

namespace Sys2Proof.Machine

variable {s t : State} {i : Instr}

/-! ## Access by phase (R73) -/

/-- R220's table, UNCONFIGURED row: the commands refused before INIT. -/
def needsReady : Instr → Prop
  | .csrWrite _ _ | .csrRead _ | .init => False
  | .setPixel _ _ | .getPixel _ | .fill _ | .clear | .encode _ | .render => True

theorem exec_needsReady (hi : needsReady i) (hn : s.phase ≠ .ready) : exec i s = .next (s.failed .notInitialized) := by
  cases i with
  | setPixel n d => exact execSetPixel_of_not_ready hn
  | getPixel n => exact execGetPixel_of_not_ready hn
  | fill d => exact execFill_of_not_ready hn
  | clear => exact execClear_of_not_ready hn
  | encode d => exact execEncode_of_not_ready hn
  | render => exact execRender_of_not_ready hn
  | csrWrite _ _ | csrRead _ | init => exact hi.elim

/-- INIT's check 0. -/
theorem execInit_of_ready (hr : s.phase = .ready) : execInit s = .next (s.failed .configLocked) :=
  execInit_of_failure (initFailure_of_first (k := 0) (by decide) (fun j hj => absurd hj j.not_lt_zero)
    fun hu => by cases hr.symm.trans hu)

/-- Settles O18, by the phase. -/
theorem phaseControlsAccess : Obligations.PhaseControlsAccess := by
  refine fun s => ⟨fun hu => ?unconfigured, fun hr => ⟨fun n d hn => ?csrWrite, execInit_of_ready hr⟩⟩
  case unconfigured =>
    have hrefused : ∀ i, needsReady i → exec i s = .next (s.failed .notInitialized) :=
      fun i hi => exec_needsReady hi (not_ready_of_unconfigured hu)
    exact ⟨fun i d => hrefused (.setPixel i d) trivial, fun i => hrefused (.getPixel i) trivial,
      fun d => hrefused (.fill d) trivial, hrefused .clear trivial, fun d => hrefused (.encode d) trivial,
      hrefused .render trivial⟩
  case csrWrite =>
    obtain ⟨r, rfl, -⟩ := csrAt_config hn
    exact execCsrWrite_of_ready hr

/-! ## What each phase keeps -/

/-- What a command in READY keeps: of the registers only LAST_ERR and RENDER_COUNT can change, and of the buffer only
what its pixels hold. -/
structure State.KeepsReady (s t : State) : Prop where
  params : t.params = s.params
  phase : t.phase = .ready
  csr : ∃ e n, t.csr = { s.csr with lastErr := e, renderCount := n }
  lut : t.lut = s.lut
  fit : pixelsFit s.csr.numLeds s.csr.channels s.pix = true → pixelsFit s.csr.numLeds s.csr.channels t.pix = true

/-- What a command in UNCONFIGURED keeps: the LUT, the buffer, FRAME_LEN and RENDER_COUNT. -/
structure State.KeepsUnbuilt (s t : State) : Prop where
  params : t.params = s.params
  phase : t.phase = .unconfigured
  lut : t.lut = s.lut
  pix : t.pix = s.pix
  frameLen : t.csr.frameLen = s.csr.frameLen
  renderCount : t.csr.renderCount = s.csr.renderCount

theorem State.KeepsReady.answered (hr : s.phase = .ready) (d : RData) : s.KeepsReady (s.answered d) :=
  ⟨rfl, hr, ⟨_, _, rfl⟩, rfl, id⟩

theorem State.KeepsReady.failed (hr : s.phase = .ready) (e : StatusCode) : s.KeepsReady (s.failed e) :=
  ⟨rfl, hr, ⟨_, _, rfl⟩, rfl, id⟩

theorem State.KeepsUnbuilt.answered (hu : s.phase = .unconfigured) (d : RData) : s.KeepsUnbuilt (s.answered d) :=
  ⟨rfl, hu, rfl, rfl, rfl, rfl⟩

theorem State.KeepsUnbuilt.failed (hu : s.phase = .unconfigured) (e : StatusCode) : s.KeepsUnbuilt (s.failed e) :=
  ⟨rfl, hu, rfl, rfl, rfl, rfl⟩

/-- R20, R73: a command in READY keeps the configuration, but for a RENDER that reset cuts short (R243). -/
theorem exec_of_ready (hr : s.phase = .ready) (h : exec i s = .next t) :
    s.KeepsReady t ∨ i = .render ∧ ∃ F bits, s.Offers F ∧ s.nextOutcome = .reset bits
      ∧ t = (s.countRender.transmit F).resetBlock := by
  cases i with
  | setPixel n d =>
    rcases execSetPixel_next h with ⟨hn, -⟩ | ⟨-, -, rfl⟩ | ⟨-, -, rfl⟩
    · exact absurd hr hn
    · exact .inl (State.KeepsReady.failed hr _)
    · exact .inl ⟨rfl, hr, ⟨_, _, rfl⟩, rfl, writePixel_keeps_fit n.toNat d⟩
  | fill d =>
    rcases execFill_next h with ⟨hn, -⟩ | ⟨-, rfl⟩
    · exact absurd hr hn
    · exact .inl ⟨rfl, hr, ⟨_, _, rfl⟩, rfl, fun _ => fillPixels_fit s d⟩
  | clear =>
    rcases execClear_next h with ⟨hn, -⟩ | ⟨-, rfl⟩
    · exact absurd hr hn
    · exact .inl ⟨rfl, hr, ⟨_, _, rfl⟩, rfl, fun _ => zeroPixels_fit s⟩
  | render =>
    rcases execRender_next h with
      ⟨hn, -⟩ | ⟨-, e, -, rfl⟩ | ⟨-, F, hF, ⟨-, rfl⟩ | ⟨-, rfl⟩ | ⟨bits, ho, rfl⟩⟩
    · exact absurd hr hn
    · exact .inl (State.KeepsReady.failed hr e)
    · exact .inl ⟨rfl, hr, ⟨_, _, rfl⟩, rfl, id⟩
    · exact .inl ⟨rfl, hr, ⟨_, _, rfl⟩, rfl, id⟩
    · exact .inr ⟨rfl, F, bits, ⟨hr, hF⟩, ho, rfl⟩
  | csrWrite _ _ | csrRead _ | init | getPixel _ | encode _ =>
    rcases exec_quiet_next (by exact trivial) hr h with ⟨d, rfl⟩ | ⟨e, rfl⟩
    · exact .inl (State.KeepsReady.answered hr d)
    · exact .inl (State.KeepsReady.failed hr e)

/-- R184, R220: a command in UNCONFIGURED builds nothing, but for an INIT that succeeds. -/
theorem exec_of_unconfigured (hu : s.phase = .unconfigured) (h : exec i s = .next t) :
    s.KeepsUnbuilt t ∨ i = .init ∧ initFailure s = none ∧ t = s.configured.answered .nothing := by
  have hn : s.phase ≠ .ready := not_ready_of_unconfigured hu
  cases i with
  | csrWrite n d =>
    rcases execCsrWrite_next h with rfl | ⟨r, -, ⟨hr, -⟩ | ⟨-, -, rfl⟩ | ⟨-, -, rfl⟩⟩
    · exact .inl (State.KeepsUnbuilt.failed hu _)
    · exact absurd hr hn
    · exact .inl (State.KeepsUnbuilt.failed hu _)
    · exact .inl ⟨rfl, hu, rfl, rfl, write_frameLen s.csr r d, write_renderCount s.csr r d⟩
  | csrRead n =>
    rcases execCsrRead_next h with ⟨-, rfl⟩ | ⟨x, -, rfl⟩
    · exact .inl (State.KeepsUnbuilt.failed hu _)
    · exact .inl (State.KeepsUnbuilt.answered hu _)
  | init =>
    rcases execInit_next h with ⟨e, -, rfl⟩ | ⟨hpass, rfl⟩
    · exact .inl (State.KeepsUnbuilt.failed hu e)
    · exact .inr ⟨rfl, hpass, rfl⟩
  | setPixel _ _ | getPixel _ | fill _ | clear | encode _ | render =>
    obtain rfl := raise_next ((exec_needsReady (by exact trivial) hn).symm.trans h)
    exact .inl (State.KeepsUnbuilt.failed hu _)

end Sys2Proof.Machine
end

section
/-! The invariant (spec 43_configuration.md R190): what each phase keeps is enough to stay consistent, and the
configured block is consistent. -/

namespace Sys2Proof.Machine

variable {s t : State} {i : Instr}

theorem effectiveCount_idem (p : Params) (f r : Nat) :
    effectiveCount p f (effectiveCount p f r) = effectiveCount p f r := by
  unfold effectiveCount
  split
  · split <;> rfl
  · rfl

theorem State.Consistent.answered (hs : s.Consistent) (d : RData) : (s.answered d).Consistent := hs

theorem State.Consistent.failed (hs : s.Consistent) (e : StatusCode) : (s.failed e).Consistent := hs

/-- The invariant of UNCONFIGURED holds of any state in it with nothing built. -/
theorem consistent_of_notBuilt (hu : s.phase = .unconfigured) (h : s.NotBuilt) : s.Consistent :=
  ⟨fun _ => h, fun hr => by cases hu.symm.trans hr⟩

theorem consistent_of_built (hr : s.phase = .ready) (h : s.Built) : s.Consistent :=
  ⟨fun hu => (by cases hr.symm.trans hu), fun _ => h⟩

theorem resetBlock_consistent (s : State) : s.resetBlock.Consistent :=
  consistent_of_notBuilt rfl ⟨rfl, rfl, rfl, rfl⟩

theorem State.KeepsUnbuilt.consistent (h : s.KeepsUnbuilt t) (hu : s.phase = .unconfigured) (hs : s.Consistent) :
    t.Consistent := by
  obtain ⟨hlut, hpix, hlen, hcount⟩ := hs.1 hu
  exact consistent_of_notBuilt h.phase
    ⟨h.lut.trans hlut, h.pix.trans hpix, h.frameLen.trans hlen, h.renderCount.trans hcount⟩

theorem State.KeepsReady.consistent (h : s.KeepsReady t) (hr : s.phase = .ready) (hs : s.Consistent) :
    t.Consistent := by
  obtain ⟨hchecks, hlut, hfit, hlen, hlead, htrail⟩ := hs.2 hr
  obtain ⟨e, n, hcsr⟩ := h.csr
  refine consistent_of_built h.phase ?_
  rw [State.Built, h.params, h.lut, hcsr]
  exact ⟨hchecks, hlut, h.fit hfit, hlen, hlead, htrail⟩

/-- The configured block passes INIT's checks: its counts are effective already. -/
theorem configured_consistent (hpass : initFailure s = none) : s.configured.Consistent := by
  obtain ⟨-, hchecks⟩ := initFailure_none_iff.mp hpass
  have hS : s.csr.symbolWidth ≤ 32 := (initCheck_of_configChecks hchecks (k := 4) (by decide) (by decide)).2
  have hlead : effectiveLead s.params s.csr ≤ 0xFFFFFF :=
    initCheck_of_configChecks hchecks (k := 9) (by decide) (by decide)
  have htrail : effectiveTrail s.params s.csr ≤ 0xFFFFFF :=
    initCheck_of_configChecks hchecks (k := 11) (by decide) (by decide)
  have hleadBytes : (s.csr.configured s.params).leadBytes = effectiveLead s.params s.csr :=
    configured_resetLead_toNat hlead
  have htrailBytes : (s.csr.configured s.params).trailBytes = effectiveTrail s.params s.csr :=
    configured_resetTrail_toNat htrail
  have heffLead : effectiveLead s.params (s.csr.configured s.params) = effectiveLead s.params s.csr := by
    rw [effectiveLead, hleadBytes]
    exact effectiveCount_idem _ _ _
  have heffTrail : effectiveTrail s.params (s.csr.configured s.params) = effectiveTrail s.params s.csr := by
    rw [effectiveTrail, htrailBytes]
    exact effectiveCount_idem _ _ _
  refine consistent_of_built rfl ⟨?checks, rfl, zeroPixels_fit s, ?len, hleadBytes.trans heffLead.symm,
    htrailBytes.trans heffTrail.symm⟩
  case checks =>
    have hsame : configChecks s.params (s.csr.configured s.params) = configChecks s.params s.csr := by
      rw [configChecks, heffLead, heffTrail]
      rfl
    exact hsame.symm ▸ hchecks
  case len =>
    refine (configured_frameLen_toNat hS hlead htrail).trans ?_
    rw [State.configured_csr, CsrFile.frameLength, hleadBytes, htrailBytes]
    rfl

theorem exec_keeps_consistent (hs : s.Consistent) (h : exec i s = .next t) : t.Consistent := by
  cases hp : s.phase with
  | unconfigured =>
    rcases exec_of_unconfigured hp h with hkeeps | ⟨-, hpass, rfl⟩
    · exact hkeeps.consistent hp hs
    · exact State.Consistent.answered (configured_consistent hpass) _
  | ready =>
    rcases exec_of_ready hp h with hkeeps | ⟨-, F, bits, -, -, rfl⟩
    · exact hkeeps.consistent hp hs
    · exact resetBlock_consistent _

end Sys2Proof.Machine
end

section
/-! The step (spec 00_scope.md R3, 30_encoding.md R81): the three kinds of step, and what every step keeps. -/

namespace Sys2Proof.Machine

variable {s t : State} {w : CmdWord}

/-! ## One step -/

/-- Running a word runs the command it decodes to, or fails with IllegalCommand (R88, R93). -/
theorem runWord_next (h : runWord w s = .next t) :
    (∃ i, decode w = .command i ∧ exec i s = .next t) ∨ t = s.failed .illegalCommand := by
  cases hw : decode w with
  | command i => exact .inl ⟨i, rfl, (runWord_of_command hw s).symm.trans h⟩
  | illegal opc => exact .inr (raise_next ((runWord_of_illegal hw).symm.trans h))

/-- The event is gone, and the rest of the state is as before: how a step starts. -/
def State.taken (s : State) : State := { s with host := s.host.tail }

/-- The three kinds of step: idle (R225), reset (R240), a command word (R81). -/
theorem step_next (h : step s = .next t) :
    (s.host = [] ∧ t = s) ∨ (s.host.head? = some .reset ∧ t = s.taken.resetBlock)
      ∨ ∃ w, s.host.head? = some (.command w) ∧ runWord w s.taken = .next t := by
  cases hhost : s.host with
  | nil =>
    rw [step_idle hhost] at h
    injection h with h
    exact .inl ⟨rfl, h.symm⟩
  | cons e rest =>
    have htaken : s.taken = { s with host := rest } := by rw [State.taken, hhost, List.tail_cons]
    rw [step_event hhost, ← htaken] at h
    cases e with
    | reset =>
      injection h with h
      exact .inr (.inl ⟨rfl, h.symm⟩)
    | command w => exact .inr (.inr ⟨w, rfl, h⟩)

/-- Settles O6: a step takes the event at the head of the host's list. -/
theorem stepRunsTheDecodedCommand : Obligations.StepRunsTheDecodedCommand := by
  refine ⟨fun s w rest i hhost hw => ?command, fun s w i hw => ?delivered, fun s => step_idle⟩
  case command =>
    rw [step_event hhost]
    exact runWord_of_command hw _
  case delivered =>
    have hword : BitVec.ofNat 64 (w.toNat % 2 ^ 64) = w := by
      rw [Nat.mod_eq_of_lt w.isLt, BitVec.ofNat_toNat, BitVec.setWidth_eq]
    rw [State.withFetchWord, hword, step_event (s.deliver_host w)]
    exact runWord_of_command hw s

/-- Settles O7: the reset input resets the block, and the ports keep what is on their other side. -/
theorem resetInputGivesResetValues : Obligations.ResetInputGivesResetValues := by
  intro s rest hhost
  exact ⟨_, step_event hhost, resetBlock_atReset _, rfl, rfl, rfl, rfl, rfl, rfl⟩

/-- Settles O8: the machine starts as a block that has just been reset. -/
theorem resetStateIsConsistent : Obligations.ResetStateIsConsistent :=
  ⟨resetBlock_atReset State.reset, resetBlock_consistent State.reset⟩

/-! ## The invariant -/

theorem runWord_keeps_consistent (hs : s.Consistent) (h : runWord w s = .next t) : t.Consistent := by
  rcases runWord_next h with ⟨i, -, hexec⟩ | rfl
  · exact exec_keeps_consistent hs hexec
  · exact State.Consistent.failed hs _

/-- Settles O9, by the kind of step. -/
theorem stepKeepsConsistency : Obligations.StepKeepsConsistency := by
  intro s t hs h
  rcases step_next h with ⟨-, rfl⟩ | ⟨-, rfl⟩ | ⟨w, -, hrun⟩
  · exact hs
  · exact resetBlock_consistent _
  · exact runWord_keeps_consistent (s := s.taken) hs hrun

/-! ## What a step changes in each phase (R20) -/

/-- No command writes the OPEN parameters. -/
theorem exec_params {i : Instr} (h : exec i s = .next t) : t.params = s.params := by
  cases hp : s.phase with
  | unconfigured =>
    rcases exec_of_unconfigured hp h with hkeeps | ⟨-, -, rfl⟩
    · exact hkeeps.params
    · rfl
  | ready =>
    rcases exec_of_ready hp h with hkeeps | ⟨-, F, bits, -, -, rfl⟩
    · exact hkeeps.params
    · rfl

theorem runWord_params (h : runWord w s = .next t) : t.params = s.params := by
  rcases runWord_next h with ⟨i, -, hexec⟩ | rfl
  · exact exec_params hexec
  · rfl

theorem State.KeepsReady.refl (hr : s.phase = .ready) : s.KeepsReady s := ⟨rfl, hr, ⟨_, _, rfl⟩, rfl, id⟩

/-- R73: a step from READY that does not reset the block keeps the configuration. -/
theorem step_keepsReady (hr : s.phase = .ready) (hnot : ¬ s.StepResets) (h : step s = .next t) : s.KeepsReady t := by
  rcases step_next h with ⟨-, rfl⟩ | ⟨hhead, -⟩ | ⟨w, hhead, hrun⟩
  · exact State.KeepsReady.refl hr
  · exact absurd (.inl hhead) hnot
  · rcases runWord_next hrun with ⟨i, hw, hexec⟩ | rfl
    · rcases exec_of_ready (s := s.taken) hr hexec with hkeeps | ⟨rfl, F, bits, hF, ho, -⟩
      · exact ⟨hkeeps.params, hkeeps.phase, hkeeps.csr, hkeeps.lut, hkeeps.fit⟩
      · exact absurd (stepResets_of_cutShort hhead hw (F := F) ⟨hF.ready, hF.builds⟩ ho) hnot
    · exact ⟨rfl, hr, ⟨_, _, rfl⟩, rfl, id⟩

/-- Settles O11: a step from READY resets or keeps READY, and from UNCONFIGURED only INIT leads on. -/
theorem phaseChangesOnlyByInitAndReset : Obligations.PhaseChangesOnlyByInitAndReset := by
  refine fun s t h => ⟨fun hr => ⟨fun hu => ?ended, fun hreset => ?reset⟩, fun hu hr => ?begun⟩
  case ended =>
    by_contra hnot
    cases hu.symm.trans (step_keepsReady hr hnot h).phase
  case reset =>
    obtain ⟨u, rfl, -⟩ := step_of_stepResets hreset h
    rfl
  case begun =>
    rcases step_next h with ⟨-, rfl⟩ | ⟨-, rfl⟩ | ⟨w, hhead, hrun⟩
    · cases hu.symm.trans hr
    · cases hr
    · rcases runWord_next hrun with ⟨i, hw, hexec⟩ | rfl
      · rcases exec_of_unconfigured (s := s.taken) hu hexec with hkeeps | ⟨rfl, -, rfl⟩
        · cases hkeeps.phase.symm.trans hr
        · obtain ⟨rest, hhost⟩ := List.head?_eq_some_iff.mp hhead
          exact ⟨rfl, w, rest, hhost, hw⟩
      · cases hu.symm.trans hr

/-- The registers that a command in READY can change are no configuration registers. -/
theorem State.KeepsReady.read (h : s.KeepsReady t) (r : ConfigReg) : t.csr.read r = s.csr.read r := by
  obtain ⟨e, n, hcsr⟩ := h.csr
  rw [hcsr]
  cases r <;> rfl

theorem State.KeepsReady.frameLen (h : s.KeepsReady t) : t.csr.frameLen = s.csr.frameLen := by
  obtain ⟨e, n, hcsr⟩ := h.csr
  rw [hcsr]

theorem State.KeepsReady.pix_length (h : s.KeepsReady t) (hr : s.phase = .ready) (hs : s.Consistent) :
    t.pix.length = s.pix.length := by
  have hfit := pixelsFit_of_ready hs hr
  obtain ⟨hlen, -⟩ := pixelsFit_iff.mp hfit
  obtain ⟨hlen', -⟩ := pixelsFit_iff.mp (h.fit hfit)
  exact hlen'.trans hlen.symm

/-- No step writes the OPEN parameters. -/
theorem step_params (h : step s = .next t) : t.params = s.params := by
  rcases step_next h with ⟨-, rfl⟩ | ⟨-, rfl⟩ | ⟨w, -, hrun⟩
  · rfl
  · rfl
  · exact runWord_params (s := s.taken) hrun

/-- Settles O12, by what a step from READY keeps. -/
theorem configurationIsConstantInReady : Obligations.ConfigurationIsConstantInReady := by
  refine fun s t h => ⟨step_params h, fun hr hnot => ?_⟩
  have hkeeps := step_keepsReady hr hnot h
  exact ⟨hkeeps.read, hkeeps.frameLen, hkeeps.lut, hkeeps.pix_length hr⟩

/-! ## Where the machine stops (R162) -/

theorem execCsrWrite_total (n : Index) (d : Word) (s : State) : ∃ t, execCsrWrite n d s = .next t := by
  unfold execCsrWrite
  split
  case h_5 r hr =>
    split
    · exact ⟨_, rfl⟩
    · split <;> exact ⟨_, rfl⟩
  all_goals exact ⟨_, rfl⟩

theorem execCsrRead_total (n : Index) (s : State) : ∃ t, execCsrRead n s = .next t := by
  unfold execCsrRead
  split <;> exact ⟨_, rfl⟩

theorem execInit_total (s : State) : ∃ t, execInit s = .next t := by
  cases hfail : initFailure s with
  | none => exact ⟨_, execInit_of_pass hfail⟩
  | some e => exact ⟨_, execInit_of_failure hfail⟩

theorem execEncode_total (hr : s.phase = .ready) (d : Word) : ∃ t, execEncode d s = .next t := by
  rcases Nat.lt_or_ge 0xFF d.toNat with hd | hd
  · exact ⟨_, execEncode_of_gt hr hd⟩
  · exact ⟨_, execEncode_of_le hr hd⟩

theorem execSetPixel_total (hr : s.phase = .ready) (i : Index) (d : Word) : ∃ t, execSetPixel i d s = .next t := by
  rcases Nat.lt_or_ge i.toNat s.csr.numLeds with hi | hi
  · exact ⟨_, execSetPixel_of_lt hr hi⟩
  · exact ⟨_, execSetPixel_of_ge hr hi⟩

theorem execGetPixel_total (hr : s.phase = .ready) (i : Index) : ∃ t, execGetPixel i s = .next t := by
  rcases Nat.lt_or_ge i.toNat s.csr.numLeds with hi | hi
  · exact ⟨_, execGetPixel_of_lt hr hi⟩
  · exact ⟨_, execGetPixel_of_ge hr hi⟩

/-- R162: of the outcomes of the wait, only the silent transport leaves no next state. -/
theorem finishRender_total (s : State) (F : List Byte) :
    (∃ t, finishRender s F = .next t)
      ∨ finishRender s F = .fault .transportNeverAnswers ∧ s.nextOutcome = .never := by
  cases ho : s.nextOutcome with
  | answered a =>
    cases a with
    | ok => exact .inl ⟨_, finishRender_of_ok ho⟩
    | fail => exact .inl ⟨_, finishRender_of_fail ho⟩
  | never => exact .inr ⟨finishRender_of_never ho, rfl⟩
  | reset bits => exact .inl ⟨_, finishRender_of_reset ho⟩

theorem execRender_total (hr : s.phase = .ready) :
    (∃ t, execRender s = .next t)
      ∨ execRender s = .fault .transportNeverAnswers ∧ s.nextOutcome = .never := by
  cases hF : buildFrame s.csr s.lut s.pix with
  | error e => exact .inl ⟨s.failed e, by rw [execRender, if_pos hr, hF]; rfl⟩
  | ok F =>
    rw [execRender_of_offer ⟨hr, hF⟩]
    exact finishRender_total s.countRender F

/-- R210: a command completes, or it is a RENDER stuck in READY. -/
theorem exec_total (i : Instr) (s : State) :
    (∃ t, exec i s = .next t)
      ∨ exec i s = .fault .transportNeverAnswers ∧ i = .render ∧ s.phase = .ready ∧ s.nextOutcome = .never := by
  by_cases hrefused : needsReady i ∧ s.phase ≠ .ready
  · exact .inl ⟨_, exec_needsReady hrefused.1 hrefused.2⟩
  have hr (hi : needsReady i) : s.phase = .ready := by_contra fun hn => hrefused ⟨hi, hn⟩
  cases i with
  | csrWrite n d => exact .inl (execCsrWrite_total n d s)
  | csrRead n => exact .inl (execCsrRead_total n s)
  | init => exact .inl (execInit_total s)
  | setPixel n d => exact .inl (execSetPixel_total (hr trivial) n d)
  | getPixel n => exact .inl (execGetPixel_total (hr trivial) n)
  | fill d => exact .inl ⟨_, execFill_of_ready (hr trivial)⟩
  | clear => exact .inl ⟨_, execClear_of_ready (hr trivial)⟩
  | encode d => exact .inl (execEncode_total (hr trivial) d)
  | render =>
    rcases execRender_total (hr trivial) with hnext | ⟨hfault, ho⟩
    · exact .inl hnext
    · exact .inr ⟨hfault, rfl, hr trivial, ho⟩

/-- Settles O10: a step completes unless it runs a command that does not. -/
theorem stepStopsOnlyAtASilentTransport : Obligations.StepStopsOnlyAtASilentTransport := by
  intro s
  cases hhost : s.host with
  | nil => exact .inl ⟨s, step_idle hhost⟩
  | cons e rest =>
    rw [step_event hhost]
    cases e with
    | reset => exact .inl ⟨_, rfl⟩
    | command w =>
      cases hw : decode w with
      | illegal opc => exact .inl ⟨_, runWord_of_illegal hw⟩
      | command i =>
        rw [runEvent, runWord_of_command hw]
        rcases exec_total i { s with host := rest } with hnext | ⟨hfault, rfl, hr, ho⟩
        · exact .inl hnext
        · exact .inr ⟨hfault, hr, ho, w, rest, rfl, hw⟩

end Sys2Proof.Machine
end

section
/-! The response of each command (spec 30_encoding.md R82, 60_exceptions.md R211): its data and its errors, and the
reads, which change nothing but the list of responses (20_memory.md R70). -/

namespace Sys2Proof.Machine

open Sys2Proof.Spec

variable {s t : State} {i : Instr} {r : Response}

/-! ## What a command answers -/

/-- A response that a command can give from `s`: OK with the data of R82, or one of R211's errors with none. -/
inductive Answers (i : Instr) (s : State) : Response → Prop
  | succeeded {d : RData} (hd : okData s i d) : Answers i s ⟨.ok, d⟩
  | raised {e : StatusCode} (he : e ∈ mayRaise i) : Answers i s ⟨e, .nothing⟩

/-- OK is no error (R211). -/
theorem ok_not_mem_mayRaise (i : Instr) : StatusCode.ok ∉ mayRaise i := by
  cases i <;> simp [mayRaise]

/-- R115: in READY every LUT entry has S bytes. -/
theorem lutEntry_length (hs : s.Consistent) (hr : s.phase = .ready) (v : Byte) :
    (lutEntry s.lut v).length = s.csr.symbolWidth := by
  rw [lut_eq_buildLut hs hr, lutEntry_buildLut, csrEncodeByte_length]

/-- R82: a command adds one response of its own kind; only a RENDER that reset cuts short adds none (R243). -/
theorem exec_answers (hs : s.Consistent) (h : exec i s = .next t) :
    (∃ r, Answers i s r ∧ t.responses = s.responses ++ [r])
      ∨ i = .render ∧ (∃ bits, s.nextOutcome = .reset bits) ∧ t.responses = s.responses := by
  cases i with
  | csrWrite n d =>
    rcases execCsrWrite_next h with rfl | ⟨r, -, ⟨-, rfl⟩ | ⟨-, -, rfl⟩ | ⟨-, -, rfl⟩⟩
    · exact .inl ⟨_, .raised (by simp [mayRaise]), rfl⟩
    · exact .inl ⟨_, .raised (by simp [mayRaise]), rfl⟩
    · exact .inl ⟨_, .raised (by simp [mayRaise]), rfl⟩
    · exact .inl ⟨_, .succeeded rfl, rfl⟩
  | csrRead n =>
    rcases execCsrRead_next h with ⟨-, rfl⟩ | ⟨x, -, rfl⟩
    · exact .inl ⟨_, .raised (by simp [mayRaise]), rfl⟩
    · exact .inl ⟨_, .succeeded ⟨_, rfl⟩, rfl⟩
  | init =>
    rcases execInit_next h with ⟨e, he, rfl⟩ | ⟨-, rfl⟩
    · exact .inl ⟨_, .raised (initFailure_mem_mayRaise he), rfl⟩
    · exact .inl ⟨_, .succeeded rfl, rfl⟩
  | setPixel n d =>
    rcases execSetPixel_next h with ⟨-, rfl⟩ | ⟨-, -, rfl⟩ | ⟨-, -, rfl⟩
    · exact .inl ⟨_, .raised (by simp [mayRaise]), rfl⟩
    · exact .inl ⟨_, .raised (by simp [mayRaise]), rfl⟩
    · exact .inl ⟨_, .succeeded rfl, rfl⟩
  | getPixel n =>
    rcases execGetPixel_next h with ⟨-, rfl⟩ | ⟨-, -, rfl⟩ | ⟨-, -, rfl⟩
    · exact .inl ⟨_, .raised (by simp [mayRaise]), rfl⟩
    · exact .inl ⟨_, .raised (by simp [mayRaise]), rfl⟩
    · exact .inl ⟨_, .succeeded ⟨_, rfl⟩, rfl⟩
  | fill d =>
    rcases execFill_next h with ⟨-, rfl⟩ | ⟨-, rfl⟩
    · exact .inl ⟨_, .raised (by simp [mayRaise]), rfl⟩
    · exact .inl ⟨_, .succeeded rfl, rfl⟩
  | clear =>
    rcases execClear_next h with ⟨-, rfl⟩ | ⟨-, rfl⟩
    · exact .inl ⟨_, .raised (by simp [mayRaise]), rfl⟩
    · exact .inl ⟨_, .succeeded rfl, rfl⟩
  | encode d =>
    rcases execEncode_next h with ⟨-, rfl⟩ | ⟨-, -, rfl⟩ | ⟨hr, v, -, rfl⟩
    · exact .inl ⟨_, .raised (by simp [mayRaise]), rfl⟩
    · exact .inl ⟨_, .raised (by simp [mayRaise]), rfl⟩
    · exact .inl ⟨_, .succeeded ⟨_, rfl, lutEntry_length hs hr v⟩, rfl⟩
  | render =>
    rcases execRender_next h with
      ⟨-, rfl⟩ | ⟨hr, e, he, -⟩ | ⟨-, F, -, ⟨-, rfl⟩ | ⟨-, rfl⟩ | ⟨bits, ho, rfl⟩⟩
    · exact .inl ⟨_, .raised (by simp [mayRaise]), rfl⟩
    · exact absurd he (wrongShapeIsNoFrame.2 s hs hr e)
    · exact .inl ⟨_, .succeeded rfl, rfl⟩
    · exact .inl ⟨_, .raised (by simp [mayRaise]), rfl⟩
    · exact .inr ⟨rfl, ⟨bits, ho⟩, rfl⟩

/-- R211: code 0 is OK's alone. -/
theorem code_eq_zero_iff (e : StatusCode) : e.code = 0 ↔ e = .ok := by
  cases e <;> decide

/-- Settles O14, by what the command answers. -/
theorem everyCommandReturnsOneResponse : Obligations.EveryCommandReturnsOneResponse := by
  intro w s t hs h
  rcases runWord_next h with ⟨i, hw, hexec⟩ | rfl
  case inr => exact .inl ⟨_, rfl, code_eq_zero_iff _, nofun, fun _ => rfl⟩
  case inl =>
    rcases exec_answers hs hexec with ⟨r, hr, hresponses⟩ | ⟨rfl, ho, hresponses⟩
    · refine .inl ⟨r, hresponses, code_eq_zero_iff _, ?_⟩
      cases hr with
      | succeeded hd => exact ⟨fun _ => ⟨i, hw, hd⟩, fun hne => absurd rfl hne⟩
      | raised he => exact ⟨fun hok => absurd (hok ▸ he) (ok_not_mem_mayRaise i), fun _ => rfl⟩
    · exact .inr ⟨hw, ho, hresponses⟩

theorem last_response_unique {r' : Response} (h : t.responses = s.responses ++ [r])
    (h' : t.responses = s.responses ++ [r']) : r = r' :=
  List.singleton_inj.mp (List.append_cancel_left (h.symm.trans h'))

/-- Settles O16, by what the command answers. -/
theorem errorsComeFromTheirCommands : Obligations.ErrorsComeFromTheirCommands := by
  intro i s t r hs h hresponses hne
  rcases exec_answers hs h with ⟨r', hr', hresponses'⟩ | ⟨-, -, hnone⟩
  · obtain rfl := last_response_unique hresponses hresponses'
    cases hr' with
    | succeeded _ => exact absurd rfl hne
    | raised he => exact he
  · simp [hnone] at hresponses

/-! ## The reads (R70) -/

/-- R70: the commands that only read. -/
def isRead : Instr → Prop
  | .csrRead _ | .getPixel _ | .encode _ => True
  | _ => False

theorem execEncode_of_channelValue {d : Word} {v : Byte} (hr : s.phase = .ready) (hv : channelValue d = some v) :
    execEncode d s = .next (s.answered (.bytes (lutEntry s.lut v))) := by
  rw [execEncode, if_pos hr, hv]
  rfl

/-- A read fails, or it answers what it answers again in the state after. -/
theorem exec_read_next (hi : isRead i) (h : exec i s = .next t) :
    (∃ e ≠ .ok, t = s.failed e) ∨ ∃ d, t = s.answered d ∧ exec i t = .next (t.answered d) := by
  cases i with
  | csrRead n =>
    rcases execCsrRead_next h with ⟨-, rfl⟩ | ⟨x, hx, rfl⟩
    · exact .inl ⟨.illegalCommand, nofun, rfl⟩
    · exact .inr ⟨_, rfl, readGives_of_csrAt hx (by cases x <;> rfl)⟩
  | getPixel n =>
    rcases execGetPixel_next h with ⟨-, rfl⟩ | ⟨-, -, rfl⟩ | ⟨hr, hn, rfl⟩
    · exact .inl ⟨.notInitialized, nofun, rfl⟩
    · exact .inl ⟨.rangeError, nofun, rfl⟩
    · exact .inr ⟨_, rfl, execGetPixel_of_lt hr hn⟩
  | encode d =>
    rcases execEncode_next h with ⟨-, rfl⟩ | ⟨-, -, rfl⟩ | ⟨hr, v, hv, rfl⟩
    · exact .inl ⟨.notInitialized, nofun, rfl⟩
    · exact .inl ⟨.rangeError, nofun, rfl⟩
    · exact .inr ⟨_, rfl, execEncode_of_channelValue hr hv⟩
  | csrWrite _ _ | init | setPixel _ _ | fill _ | clear | render => exact hi.elim

/-- Settles O48: a read's answer is no input of the read. -/
theorem readsHaveNoSideEffects : Obligations.ReadsHaveNoSideEffects := by
  intro i s t r hi h hresponses hok
  have hread : isRead i := by rcases hi with ⟨n, rfl⟩ | ⟨n, rfl⟩ | ⟨d, rfl⟩ <;> trivial
  rcases exec_read_next hread h with ⟨e, he, rfl⟩ | ⟨d, rfl, hagain⟩
  · obtain rfl := last_response_unique hresponses rfl
    exact absurd hok he
  · obtain rfl := last_response_unique hresponses rfl
    refine ⟨rfl, hagain.trans ?_⟩
    simp [State.answered]

end Sys2Proof.Machine
end

section
/-! A pixel read back after it was set (spec 20_memory.md R65, 30_encoding.md R85), and what a RENDER leaves on the LEDs
(10_state.md R42) and at the block when reset cuts it short (70_reset_and_hazards.md R243). -/

namespace Sys2Proof.Machine

variable {s t : State} {d : Word}

/-! ## Colour words by slot (R65) -/

/-- A word is its four slots. -/
theorem word_eq_of_slotByte {a b : Word} (h : ∀ k < 4, slotByte a k = slotByte b k) : a = b := by
  refine BitVec.eq_of_getLsbD_eq fun j hj => ?_
  have hbit := congrArg (fun x : Byte => x.getLsbD (j % 8)) (h (3 - j / 8) (by omega))
  have hpos : 24 - 8 * (3 - j / 8) + j % 8 = j := by omega
  simpa [slotByte, Nat.mod_lt j (show 0 < 8 by decide), hpos] using hbit

theorem slotByte_and (a b : Word) (k : Nat) : slotByte (a &&& b) k = slotByte a k &&& slotByte b k :=
  BitVec.extractLsb'_and

/-- R65, R85: packing the first C slots of a word gives the word, without DATA[7:0] when C = 3. -/
theorem pack_unpack (c : CsrFile) (d : Word) :
    pack (unpack c.channels d) = if c.channels = 4 then d else d &&& 0xFFFFFF00 := by
  refine word_eq_of_slotByte fun k hk => ?_
  rw [slotByte_pack _ hk]
  rcases channels_cases c with hc | hc <;> rw [hc]
  case inr => rw [if_pos rfl, unpack_getD d hk]
  case inl =>
    rw [if_neg (by decide), slotByte_and]
    by_cases hk3 : k < 3
    · have hmask : slotByte 0xFFFFFF00 k = BitVec.allOnes 8 := by interval_cases k <;> rfl
      rw [unpack_getD d hk3, hmask, BitVec.and_allOnes]
    · obtain rfl : k = 3 := by omega
      have hmask : slotByte 0xFFFFFF00 3 = 0#8 := rfl
      rw [List.getD_eq_default _ _ (unpack_length 3 d).le, hmask, BitVec.and_zero]
      rfl

/-! ## GET_PIXEL after SET_PIXEL -/

/-- A pixel's slots are its reading. -/
theorem readPixel_congr {j : Nat} (hcsr : t.csr = s.csr) (h : ∀ k < s.csr.channels, t.slot j k = s.slot j k) :
    t.readPixel j = s.readPixel j := by
  rw [State.readPixel, State.readPixel, hcsr]
  exact List.map_congr_left fun k hk => h k (List.mem_range.mp hk)

theorem readPixel_writePixel_other (d : Word) {i j : Nat} (h : j ≠ i) :
    (s.writePixel i d).readPixel j = s.readPixel j :=
  readPixel_congr rfl fun k _ => writePixel_slot_other d h k

theorem readPixel_writePixel_same (d : Word) {i : Nat} (h : i < s.pix.length) :
    (s.writePixel i d).readPixel i = unpack s.csr.channels d :=
  List.map_congr_left fun _ hk => writePixel_slot_same d h (List.mem_range.mp hk)

/-- Settles O40: the pixel that was set reads as the word's slots, and no other pixel's slots changed. -/
theorem getPixelAfterSetPixel : Obligations.GetPixelAfterSetPixel := by
  intro i d s t hs hr hi h
  have hlen : i.toNat < s.pix.length := by
    obtain ⟨hlen, -⟩ := pixelsFit_iff.mp (pixelsFit_of_ready hs hr)
    exact hlen.symm ▸ hi
  obtain rfl : t = (s.writePixel i.toNat d).answered .nothing := respond_next ((execSetPixel_of_lt hr hi).symm.trans h)
  refine ⟨?same, fun j hj hlt => ⟨_, execGetPixel_of_lt hr hlt, ?other⟩⟩
  case same =>
    rw [← pack_unpack, ← readPixel_writePixel_same d hlen]
    exact execGetPixel_of_lt hr hi
  case other =>
    rw [← readPixel_writePixel_other d (mt BitVec.eq_of_toNat_eq hj)]
    exact execGetPixel_of_lt hr hlt

/-! ## RENDER and the LEDs -/

/-- R42: what the LEDs show is read from the last call. -/
theorem ledsShow_of_snoc {x : Transmission} {calls : List Transmission} (h : t.transmissions = calls ++ [x]) :
    t.ledsShow = if x.outcome = .answered .ok then some x.snapshot else none := by
  rw [State.ledsShow, h, List.getLast?_concat]

theorem ledsShow_congr (h : t.transmissions = s.transmissions) : t.ledsShow = s.ledsShow := by
  rw [State.ledsShow, h, ← State.ledsShow]

/-- Settles O49: RENDER's one call decides, and no other command makes a call. -/
theorem ledsChangeOnlyAtRender : Obligations.LedsChangeOnlyAtRender := by
  refine ⟨fun s t hs hr h => ?render, fun i s t hi h => ledsShow_congr (exec_sameTransport hi h).transmissions⟩
  case render =>
    obtain ⟨F, hF, -⟩ := exists_offer_of_ready hs hr
    rw [ledsShow_of_snoc (render_transmissions hF h)]
    exact ⟨fun ho => if_pos ho, fun ho => if_neg (by simp [ho])⟩

/-- Settles O45: the frame is handed over, a part of it reaches the wire, and the block is reset. -/
theorem resetDuringRender : Obligations.ResetDuringRender := by
  intro s bits hs hr ho
  obtain ⟨F, hF, -⟩ := exists_offer_of_ready hs hr
  have hexec := (execRender_of_offer hF).trans (finishRender_of_reset ho)
  have hcall := render_transmissions hF hexec
  refine ⟨_, F, hexec, resetBlock_atReset _, rfl, rfl, rfl, ?leds, hF.builds, _, hcall, rfl,
    (wireBits F).take bits, ?wire, List.take_prefix _ _⟩
  case leds => exact (ledsShow_of_snoc hcall).trans (if_neg (by simp [ho]))
  case wire => simp [Transmission.wire, ho]

end Sys2Proof.Machine
end

section
/-! The line over successive calls (spec 41_frame_builder.md R143): what a RENDER adds to it, and the gap that lies
between two frames. -/

namespace Sys2Proof.Machine

variable {s t : State} {F : List Byte} (idle unstated : Nat → Rat)

/-! ## The stretches of a frame -/

/-- The line during `n` bytes that are 0, at f Hz. -/
def lowBytes (f n : Nat) : List Stretch := bitStretches f (List.replicate (8 * n) false)

/-- The line during the frame a READY block offers: LEAD, active region, TRAIL. -/
def State.frameStretches (s : State) : List Stretch :=
  lowBytes s.csr.clockHz s.csr.leadBytes ++ bitStretches s.csr.clockHz (wireBits (activeRegion s.lut s.pix))
    ++ lowBytes s.csr.clockHz s.csr.trailBytes

/-- R130, R136, R138: the bits of the offered frame. -/
theorem bitStretches_offer (hF : s.Offers F) : bitStretches s.csr.clockHz (wireBits F) = s.frameStretches := by
  obtain ⟨-, rfl⟩ := buildFrame_ok hF.builds
  rw [wireBits_append, wireBits_append, wireBits_zeros, wireBits_zeros, bitStretches_append, bitStretches_append]
  rfl

theorem lowBytes_level {f n : Nat} {x : Stretch} (h : x ∈ lowBytes f n) : x.level = some false := by
  obtain ⟨b, hb, rfl⟩ := List.mem_map.mp h
  rw [List.eq_of_mem_replicate hb]

theorem lineSeconds_lowBytes (f n : Nat) : lineSeconds (lowBytes f n) = 8 * (n : Rat) / f := by
  rw [lowBytes, lineSeconds_bitStretches, List.length_replicate, Nat.cast_mul, Nat.cast_ofNat]

/-- R140, R188: check 10 in seconds. -/
theorem lowBytes_lasts {T f n : Nat} (hf : 1 ≤ f) (h : T * f ≤ 8 * n * 10 ^ 9) :
    (T : Rat) / 10 ^ 9 ≤ lineSeconds (lowBytes f n) := by
  have hf' : (0 : Rat) < f := by exact_mod_cast hf
  rw [lineSeconds_lowBytes, div_le_div_iff₀ (by norm_num) hf']
  exact_mod_cast h

theorem lead_lasts_seconds (hs : s.Consistent) (hr : s.phase = .ready) :
    (s.params.tResetMinNs : Rat) / 10 ^ 9 ≤ lineSeconds (lowBytes s.csr.clockHz s.csr.leadBytes) :=
  lowBytes_lasts (one_le_clockHz hs hr) (lead_lasts hs hr)

theorem trail_lasts_seconds (hs : s.Consistent) (hr : s.phase = .ready) :
    (s.params.tResetMinNs : Rat) / 10 ^ 9 ≤ lineSeconds (lowBytes s.csr.clockHz s.csr.trailBytes) :=
  lowBytes_lasts (one_le_clockHz hs hr) (trail_lasts hs hr)

/-! ## What one RENDER adds -/

theorem line_of_render (hF : s.Offers F) (h : exec .render s = .next t) :
    t.line idle unstated = s.line idle unstated ++ [⟨some false, idle s.transmissions.length⟩]
      ++ Transmission.stretches ⟨s.pix, F, s.csr.clockRate, s.nextOutcome⟩ (unstated s.transmissions.length) :=
  line_snoc idle unstated (render_transmissions hF h)

theorem line_of_render_ok (hs : s.Consistent) (hr : s.phase = .ready) (ho : s.nextOutcome = .answered .ok)
    (h : exec .render s = .next t) :
    t.line idle unstated
      = s.line idle unstated ++ [⟨some false, idle s.transmissions.length⟩] ++ s.frameStretches := by
  obtain ⟨F, hF, -⟩ := exists_offer_of_ready hs hr
  rw [line_of_render idle unstated hF h, ← bitStretches_offer hF, ho]
  rfl

/-! ## What host events add -/

/-- A RENDER makes one call or none (R159). -/
theorem render_calls (h : exec .render s = .next t) : ∃ calls, t.transmissions = s.transmissions ++ calls := by
  rcases execRender_next h with ⟨-, rfl⟩ | ⟨-, e, -, rfl⟩ | ⟨hr, F, hF, -⟩
  · exact ⟨[], (List.append_nil _).symm⟩
  · exact ⟨[], (List.append_nil _).symm⟩
  · exact ⟨_, render_transmissions ⟨hr, hF⟩ h⟩

/-- R75: what was on the record of calls stays, and only a RENDER adds to it. -/
theorem runEvent_calls {e : HostEvent} (h : runEvent e s = .next t) :
    ∃ calls, t.transmissions = s.transmissions ++ calls
      ∧ (¬ (∃ w, e = .command w ∧ decode w = .command .render) → calls = []) := by
  have unchanged (hsame : t.transmissions = s.transmissions) :
      ∃ calls, t.transmissions = s.transmissions ++ calls
        ∧ (¬ (∃ w, e = .command w ∧ decode w = .command .render) → calls = []) :=
    ⟨[], hsame.trans (List.append_nil _).symm, fun _ => rfl⟩
  cases e with
  | reset =>
    injection h with h
    exact unchanged (h ▸ rfl)
  | command w =>
    rcases runWord_next h with ⟨i, hw, hexec⟩ | rfl
    · by_cases hi : i = .render
      · subst hi
        obtain ⟨calls, hcalls⟩ := render_calls hexec
        exact ⟨calls, hcalls, fun hnot => absurd ⟨w, rfl, hw⟩ hnot⟩
      · exact unchanged (exec_sameTransport hi hexec).transmissions
    · exact unchanged rfl

/-- New calls add their line after what was on it. -/
theorem line_of_calls {calls : List Transmission} (h : t.transmissions = s.transmissions ++ calls) :
    t.line idle unstated = s.line idle unstated ++ lineOver idle unstated s.transmissions.length calls := by
  rw [State.line, h, lineOver_append, Nat.zero_add, State.line]

/-- Settles O50: one event adds the calls it makes, and a RENDER's call is its frame, cut off where reset came. -/
theorem renderExtendsTheLine : Obligations.RenderExtendsTheLine := by
  refine fun idle unstated => ⟨fun e s t h => ?event, fun s t hs hr h => ?render⟩
  case event =>
    obtain ⟨calls, hcalls, hnone⟩ := runEvent_calls h
    refine ⟨_, line_of_calls idle unstated hcalls, fun hnot => ?_⟩
    rw [hnone hnot]
    rfl
  case render =>
    obtain ⟨F, hF, -⟩ := exists_offer_of_ready hs hr
    have hline := line_of_render idle unstated hF h
    refine ⟨lead_lasts_seconds hs hr, trail_lasts_seconds hs hr, fun ho => ?ok, fun ho => ?fail, fun bits ho => ?reset⟩
    case ok =>
      rw [line_of_render_ok idle unstated hs hr ho h, State.frameStretches, ← List.append_assoc, ← List.append_assoc]
      rfl
    case fail =>
      rw [hline, ho]
      rfl
    case reset =>
      rw [hline, ho]
      exact congrArg _ (List.map_take.trans (congrArg (List.take bits) (bitStretches_offer hF)))

/-! ## Between two frames -/

theorem runEvents_cons_some {e : HostEvent} {es : List HostEvent} (h : runEvents (e :: es) s = some t) :
    ∃ m, runEvent e s = .next m ∧ runEvents es m = some t := by
  unfold runEvents at h
  split at h
  · exact ⟨_, ‹_›, h⟩
  · cases h
  · cases h

theorem runEvent_keeps_consistent {e : HostEvent} (hs : s.Consistent) (h : runEvent e s = .next t) : t.Consistent := by
  cases e with
  | reset =>
    injection h with h
    exact h ▸ resetBlock_consistent s
  | command w => exact runWord_keeps_consistent hs h

/-- Host events keep the invariant, and what was on the record of calls. -/
theorem runEvents_keep {es : List HostEvent} (hs : s.Consistent) (h : runEvents es s = some t) :
    t.Consistent ∧ ∃ calls, t.transmissions = s.transmissions ++ calls := by
  induction es generalizing s with
  | nil =>
    injection h with h
    exact ⟨h ▸ hs, [], by rw [h, List.append_nil]⟩
  | cons e es ih =>
    obtain ⟨m, hm, hrest⟩ := runEvents_cons_some h
    obtain ⟨calls, hcalls, -⟩ := runEvent_calls hm
    obtain ⟨ht, calls', hcalls'⟩ := ih (runEvent_keeps_consistent hs hm) hrest
    exact ⟨ht, calls ++ calls', by rw [hcalls', hcalls, List.append_assoc]⟩

/-- Every part of the line lasts a time that is not negative. -/
theorem stretches_seconds_nonneg (x : Transmission) {time : Rat} (h : 0 ≤ time) :
    0 ≤ lineSeconds (x.stretches time) := by
  unfold Transmission.stretches
  split
  · rw [lineSeconds_bitStretches]
    positivity
  · simpa using h

theorem lineOver_seconds_nonneg (hidle : ∀ n, 0 ≤ idle n) (hunstated : ∀ n, 0 ≤ unstated n)
    (calls : List Transmission) (n : Nat) : 0 ≤ lineSeconds (lineOver idle unstated n calls) := by
  induction calls generalizing n with
  | nil => exact le_rfl
  | cons x calls ih =>
    rw [lineOver, lineSeconds_cons, lineSeconds_append]
    exact add_nonneg (hidle n) (add_nonneg (stretches_seconds_nonneg x (hunstated n)) (ih (n + 1)))

/-- Settles O51: the record of calls only grows, and the gap holds the first frame's TRAIL. -/
theorem framesKeepTheirDistance : Obligations.FramesKeepTheirDistance := by
  intro idle unstated hidle hunstated s t u v between hs hr ho hst htu hur huo huv low active
  have ht : t.Consistent := exec_keeps_consistent hs hst
  obtain ⟨hu, calls, hcalls⟩ := runEvents_keep ht htu
  refine ⟨lineOver idle unstated t.transmissions.length calls, ?_⟩
  intro gap
  have hgap : gap = lowBytes s.csr.clockHz s.csr.trailBytes
      ++ lineOver idle unstated t.transmissions.length calls ++ [⟨some false, idle u.transmissions.length⟩]
      ++ lowBytes u.csr.clockHz u.csr.leadBytes := rfl
  refine ⟨?line, ?lasts, fun hnone => ?alone⟩
  case line =>
    have hfirst := line_of_render_ok idle unstated hs hr ho hst
    have hsecond := line_of_render_ok idle unstated hu hur huo huv
    rw [hsecond, line_of_calls idle unstated hcalls, hfirst, State.frameStretches, State.frameStretches, hgap]
    simp only [List.append_assoc]
    rfl
  case lasts =>
    have hcallsTime := lineOver_seconds_nonneg idle unstated hidle hunstated calls t.transmissions.length
    have hleadTime := (lead_lasts_seconds hu hur).trans' (by positivity)
    have htrailTime := trail_lasts_seconds hs hr
    have hidleTime := hidle u.transmissions.length
    rw [hgap]
    simp only [lineSeconds_append, lineSeconds_cons, lineSeconds_nil]
    linarith
  case alone =>
    obtain rfl : calls = [] := List.append_right_eq_self.mp (hcalls.symm.trans hnone)
    refine ⟨rfl, fun x hx => ?level, ?seconds⟩
    case level =>
      simp only [hgap, lineOver, List.append_nil, List.mem_append, List.mem_singleton] at hx
      rcases hx with (hx | rfl) | hx
      · exact lowBytes_level hx
      · rfl
      · exact lowBytes_level hx
    case seconds =>
      simp [hgap, lineOver, lineSeconds_lowBytes, add_assoc]

end Sys2Proof.Machine
end
